-- ==== Sys2Proof/Word.lean ====
section
/-! DEFINITION. The widths the manual counts in: bytes of the window, ticks of the timebase, the 16-bit
statistics fields, and the numbers that name slots, lines, channels and groups. -/

namespace Sys2Proof

/-- One byte of the bus window (R167). -/
abbrev Byte := BitVec 8

/-- A time, or a count of ticks, on the 32-bit timebase (R21, 4.3). -/
abbrev Tick := BitVec 32

/-- A 16-bit field: width, count, remaining, fired, worst lateness, ack latency (R3 to R5). -/
abbrev Half := BitVec 16

/-- Slot 0 to slot 63 (R1). -/
abbrev SlotNo := Fin 64

/-- Output line O0 to O15 (R58). -/
abbrev LineNo := Fin 16

/-- Input channel I0 to I7 (R108). -/
abbrev ChanNo := Fin 8

/-- One of the seven group records: `g` stands for group `g + 1` (R86: the group number 0 names no record). -/
abbrev GroupNo := Fin 7

end Sys2Proof
end

