-- ==== Sys2Proof/Syntax.lean ====
section
/-! DEFINITION. The commands of the AQ248: one constructor per row of spec/opcode_table.json. -/

namespace Sys2Proof

/-- The two input pins whose rising edges can be counted into ticks (R22). -/
inductive SourcePin where
  | clk
  | tcnt
deriving DecidableEq, Repr

/-- The direction of an edge on an input pin: low to high, or high to low (Section 6.2). -/
inductive EdgeDir where
  | rising
  | falling
deriving DecidableEq, Repr

/-- The events that can reach the part, each whole and indivisible. The executions of a taken command carry no
operand of their own: their parameters are the bytes latched at the taking (R171, R173). -/
inductive Instr where
  /-- A write of `code` to the CMD location (R171, R172). -/
  | taking (code : Byte)
  /-- The execution of a taken POST (R7). -/
  | post
  /-- The execution of a taken CANCEL (R14). -/
  | cancel
  /-- The execution of a taken COMMIT (R90). -/
  | commit
  /-- The execution of a taken DISCARD (R103). -/
  | discard
  /-- The execution of a taken CHANNEL (R112). -/
  | channel
  /-- The execution of a taken LINE (R81). -/
  | line
  /-- The execution of a taken FORCE (R77). -/
  | force
  /-- The execution of a taken TIMEBASE whose operation is START (R30). -/
  | timebaseStart
  /-- The execution of a taken TIMEBASE whose operation is STOP (R31). -/
  | timebaseStop
  /-- The execution of a taken TIMEBASE whose operation is LOAD (R32). -/
  | timebaseLoad
  /-- The execution of a taken TIMEBASE whose operation is SOURCE (R33). -/
  | timebaseSource
  /-- The execution of a taken LATENESS (R54). -/
  | lateness
  /-- The execution of a taken FLUSH (R157). -/
  | flush
  /-- The execution of a taken QUIESCE (R178). -/
  | quiesce
  /-- The execution of a taken INSPECT whose target is SLOT (R18). -/
  | inspectSlot
  /-- The execution of a taken INSPECT whose target is GROUP (R105). -/
  | inspectGroup
  /-- The execution of a taken INSPECT whose target is CHANNEL (R131). -/
  | inspectChannel
  /-- The execution of a taken INSPECT whose target is LINES (R82). -/
  | inspectLines
  /-- The execution of a taken INSPECT whose target is TIME (R55). -/
  | inspectTime
  /-- The execution of a latched byte that is no command code (R177). -/
  | badcmd
  /-- A read of the DONEPOP location (R149). -/
  | donepop
  /-- A read of the LOGPOP location (R155). -/
  | logpop
  /-- A write of `value` to ACKCAUSE (R162). -/
  | ackcause (value : Byte)
  /-- A write of `value` to CAUSEEN (R163). -/
  | causeen (value : Byte)
  /-- A write of `value` to LOGMARK (R158). -/
  | logmark (value : Byte)
  /-- A write of `value` to GROUPDONE (R104). -/
  | groupdone (value : Byte)
  /-- A write of `value` to the location at `offset`: a parameter byte, or a location whose write is ignored (R167, R169). -/
  | registerWrite (offset : BitVec 5) (value : Byte)
  /-- A pulse on /RESET, from its assertion to its release (R188; log 9). -/
  | hardwareReset
  /-- A rising edge on CLK or TCNT (R22). -/
  | sourceEdge (pin : SourcePin)
  /-- The advance of the timebase by one tick (R22, R23). -/
  | advance
  /-- An edge on the input pin of a channel (R109). -/
  | edge (ch : ChanNo) (dir : EdgeDir)
  /-- The expiry of a channel's watch (R122). -/
  | watchExpiry (ch : ChanNo)
  /-- The expiry of a channel's reference (R124). -/
  | referenceExpiry (ch : ChanNo)
  /-- The release of a LEAD entry from the head of the calendar (R46, R60). -/
  | leadRelease
  /-- The release of an END entry from the head of the calendar (R47). -/
  | endRelease
deriving DecidableEq, Repr

end Sys2Proof
end

