-- ==== Sys2Proof/Config.lean ====
section
/-! DEFINITION. The fixed sizes of the AQ248. Every AQ248 has the same ones; the manual leaves no value open, so no
constant here is a free value. -/

namespace Sys2Proof.Config

/-- The capture log holds at most 32 records (R151); the log threshold is clamped to the same number (R158). -/
def logCapacity : Nat := 32

/-- The age at which a reference is dropped, 2^31 - 1 ticks (R124). -/
def referenceLife : Nat := 2147483647

/-- The lowest distance, -2^31 (R25, R52). -/
def lowestDistance : Int := -2147483648

/-- The byte a pop returns while the command unit is busy (R149, R155). -/
def popBusy : Byte := 0xFE#8

/-- The byte a pop returns when its collection is empty (R149, R155); also how an absent line, slot or anchor shows. -/
def popEmpty : Byte := 0xFF#8

/-- The byte every read returns while /RESET is asserted (R168). -/
def readInReset : Byte := 0x00#8

end Sys2Proof.Config
end

