-- ==== Sys2Proof/Machine/State.lean ====
section
/-! DEFINITION. Everything the manual gives the AQ248 to hold, as plain data, and its value after a hardware reset. -/

namespace Sys2Proof.Machine

/-! ### Slots (Chapter 1) -/

/-- What an action does when it fires (R2). -/
inductive Kind where
  | set
  | clear
  | toggle
  | pulse
  | strobe
  | note
deriving DecidableEq, Repr

/-- How the due time of a placement is found (R2, R10). -/
inductive TimingMode where
  | abs
  | rel
  | trig
deriving DecidableEq, Repr

/-- The description and timing fields of a slot, written at its POST and kept until it is FREE (R2, R3). -/
structure Action where
  kind : Kind
  mode : TimingMode
  logOption : Bool
  rearm : Bool
  /-- Present for every kind but NOTE (R2). -/
  line : Option LineNo
  /-- Present for a STROBE and for every TRIG slot (R2). -/
  channel : Option ChanNo
  /-- `none` is group 0; `some g` is group `g + 1` (R2, R86). -/
  group : Option GroupNo
  tag : Byte
  timeValue : Tick
  /-- Present for PULSE and STROBE (R3). -/
  width : Option Half
  count : Half
  period : BitVec 24
deriving DecidableEq, Repr

/-- What a slot that is not FREE holds in every state: its action, remaining (R4), the statistics (R5) and
supersede-pending (R6). -/
structure Held where
  action : Action
  remaining : Half
  fired : Half
  missed : Byte
  worstLateness : Half
  ackLatency : Half
  supersedePending : Bool
deriving DecidableEq, Repr

/-- The completion statuses (R6, R148). -/
inductive Status where
  | done
  | timeout
  | cancelled
  | superseded
  | collided
  | ackBusy
  | ackOff
  | expired
  | broken
  | quiesced
deriving DecidableEq, Repr

/-- A slot record: the six states, each with exactly the fields that R6's table shows present in it. -/
inductive Slot where
  /-- FREE: every field absent. -/
  | free
  /-- OPEN: posted into a group, not yet placed. -/
  | opened (h : Held)
  /-- SCHEDULED, with the due time of its LEAD entry. -/
  | scheduled (h : Held) (due : Tick)
  /-- PARKED on its channel's parked list. -/
  | parked (h : Held)
  /-- ACTIVE: a PULSE or STROBE between its lead and its end. `leadPast` is the model's own (log 10): the `pastFloor` of the
  LEAD entry that was released. -/
  | active (h : Held) (leadDue leadTime : Tick) (leadPast : Nat)
  /-- COMPLETE, its record not yet popped. -/
  | complete (h : Held) (status : Status) (completionTime : Tick)
deriving DecidableEq, Repr

/-! ### Timebase (Chapter 2) -/

/-- STOPPED or RUNNING (R21, R24). -/
inductive TimeState where
  | stopped
  | running
deriving DecidableEq, Repr

/-- Which input pin supplies the counted edges (R21, R22). -/
inductive TimeSource where
  | internal
  | external
deriving DecidableEq, Repr

/-- The timebase record (R21). -/
structure Timebase where
  value : Tick
  state : TimeState
  source : TimeSource
  prescale : Nat
  prescaleCount : Nat
  /-- The model's own field (log 4): the prescale count has reached the prescale and the advance is not yet taken. -/
  advanceDue : Bool
deriving DecidableEq, Repr

/-! ### Calendar (Chapter 3) -/

/-- LEAD for the start of a firing, END for a trail or a timeout (R36). -/
inductive Phase where
  | lead
  | trailing
deriving DecidableEq, Repr

/-- A calendar entry (R36). -/
structure Entry where
  slot : SlotNo
  phase : Phase
  due : Tick
  /-- The model's own field (log 10): how many ticks beyond -2^31 the due time lies behind the timebase. Above 0 the entry's
  distance is taken as -2^31 (R52). -/
  pastFloor : Nat
deriving DecidableEq, Repr

/-! ### Output lines (Chapter 4) -/

/-- Which pin level stands for ACTIVE (R58). -/
inductive Polarity where
  | activeHigh
  | activeLow
deriving DecidableEq, Repr

/-- A line record (R58). `isActive` is the logical state ACTIVE. -/
structure Line where
  isActive : Bool
  polarity : Polarity
  claim : Option SlotNo
deriving DecidableEq, Repr

/-! ### Input channels (Chapter 6) -/

/-- The channel modes (R108). -/
inductive ChannelMode where
  | off
  | stamp
  | period
  | width
  | ack
deriving DecidableEq, Repr

/-- The edge setting (R108, R109). -/
inductive EdgeSetting where
  | rise
  | fall
  | both
deriving DecidableEq, Repr

/-- The sense of the limit (R108, R116). -/
inductive Sense where
  | shorter
  | longer
deriving DecidableEq, Repr

/-- The log policy (R108, R125). -/
inductive LogPolicy where
  | none
  | violations
  | all
deriving DecidableEq, Repr

/-- What launches the parked list (R108, R128). -/
inductive LaunchSource where
  | edge
  | violation
deriving DecidableEq, Repr

/-- A channel record: configuration, measurement state, ack claim and parked list (R108). -/
structure Channel where
  mode : ChannelMode
  edge : EdgeSetting
  limit : Tick
  sense : Sense
  policy : LogPolicy
  launchSource : LaunchSource
  reference : Option Tick
  watch : Option Tick
  violationMark : Bool
  ackClaim : Option SlotNo
  parked : List SlotNo
deriving DecidableEq, Repr

/-! ### Groups (Chapter 5) -/

/-- The state of a group, with the anchor and the replace flag exactly while it is PENDING (R86, R87). -/
inductive GroupState where
  | empty
  | filling
  | pending (anchor : SlotNo) (replace : Bool)
deriving DecidableEq, Repr

/-- The event that made a group's most recent commit execute (R86, R98). -/
inductive CommitCause where
  | none
  | now
  | anchorFired
  | anchorEnded
deriving DecidableEq, Repr

/-- A group record (R86). -/
structure Group where
  state : GroupState
  openList : List SlotNo
  lastCause : CommitCause
  done : Bool
deriving DecidableEq, Repr

/-! ### Capture log (Chapter 8) -/

/-- The source of a capture record (R152). -/
inductive CaptureSource where
  | channel (ch : ChanNo)
  | action (slot : SlotNo)
deriving DecidableEq, Repr

/-- The kind of a capture record (R152). -/
inductive CaptureKind where
  | stamp
  | interval
  | watch
  | ack
  | stray
  | fired
  | miss
deriving DecidableEq, Repr

/-- A capture record (R152). The interval-present flag is set exactly when `interval` is present. -/
structure Capture where
  source : CaptureSource
  kind : CaptureKind
  edge : Bool
  violation : Bool
  overrun : Bool
  tag : Byte
  timestamp : Tick
  interval : Option Tick
  extra : Half
deriving DecidableEq, Repr

/-! ### Command unit (Chapter 9) -/

/-- The result codes (R176). -/
inductive ResultCode where
  | ok
  | badCmd
  | badKind
  | badMode
  | badLine
  | badChan
  | badGroup
  | badTime
  | badSlot
  | badCfg
  | noSlot
  | notLive
  | groupState
  | emptyGroup
  | lineBusy
  | chanBusy
  | tbState
  | calNonEmpty
deriving DecidableEq, Repr

/-- Parameter buffer, parameter latch, latched command code, result buffer and command status (Section 9.2). -/
structure CommandUnit where
  params : Vector Byte 16
  latch : Vector Byte 16
  code : Byte
  result : Vector Byte 16
  busy : Bool
  overrun : Bool
  resultCode : ResultCode
deriving DecidableEq, Repr

/-! ### The /RESET pin (Section 9.1) -/

/-- The level of the /RESET pin: asserted, which is low, or released (R168, R188). -/
inductive ResetPin where
  | asserted
  | released
deriving DecidableEq, Repr

/-! ### The machine -/

/-- The whole state of the AQ248. -/
structure State where
  tb : Timebase
  slots : Vector Slot 64
  calendar : List Entry
  latenessLimit : Half
  lines : Vector Line 16
  channels : Vector Channel 8
  /-- The level of each input pin, `true` for HIGH (R110, R131). -/
  pins : Vector Bool 8
  /-- The level that the outside drives on the /RESET pin (R168, R188; log 9). -/
  resetPin : ResetPin
  groups : Vector Group 7
  /-- The completion queue, oldest first (R147). -/
  doneQueue : List SlotNo
  /-- The capture log, oldest first (R151). -/
  log : List Capture
  /-- LOGMARK, the log threshold (R158). -/
  logThreshold : Nat
  /-- CAUSEEN: bit 0 DONE, 1 LOGMARK, 2 LOGOVR, 3 GROUP, 4 CMD (R163, R182). -/
  causeEnables : BitVec 5
  /-- The CMD cause (R159, R161). -/
  cmdCause : Bool
  cu : CommandUnit
  /-- The model's own field (log 8): the byte that the last pop put on D0 to D7 (R149, R155). -/
  busData : Byte
  /-- The model's own field (log 1): the commands and events that are waiting, first in, first out. -/
  pending : List Instr
deriving DecidableEq, Repr

/-- No event of the AQ248 stops the part: a refused command ends with a result code and the part goes on (R174). No
meaning raises a fault, so there is no constructor; that is safe. -/
inductive Fault where
deriving DecidableEq, Repr

/-- Why the model has no meaning for a command. -/
inductive Refusal where
  /-- Raised only by an arm of `exec` whose command has no meaning yet; it stops the run, which is safe. -/
  | notModelled (mnemonic : String)
deriving DecidableEq, Repr

/-! ### After a hardware reset -/

/-- The timebase after a hardware reset (R34). -/
def Timebase.afterReset : Timebase where
  value := 0
  state := .stopped
  source := .internal
  prescale := 1
  prescaleCount := 0
  advanceDue := false

/-- A line after a hardware reset (R84). -/
def Line.afterReset : Line where
  isActive := false
  polarity := .activeHigh
  claim := none

/-- A channel after a hardware reset (R132). -/
def Channel.afterReset : Channel where
  mode := .off
  edge := .rise
  limit := 0
  sense := .shorter
  policy := .none
  launchSource := .edge
  reference := none
  watch := none
  violationMark := false
  ackClaim := none
  parked := []

/-- A group after a hardware reset (R106). -/
def Group.afterReset : Group where
  state := .empty
  openList := []
  lastCause := .none
  done := false

/-- The command unit after a hardware reset (R188). -/
def CommandUnit.afterReset : CommandUnit where
  params := Vector.replicate 16 0
  latch := Vector.replicate 16 0
  code := 0
  result := Vector.replicate 16 0
  busy := false
  overrun := false
  resultCode := .ok

/-- The machine right after a hardware reset (R19, R34, R56, R84, R106, R132, R165, R188). The levels of the input pins
and the byte on D0 to D7 are the model's choice (logs 5 and 8: DESIGN CHOICE). Right after the reset /RESET is released. -/
def State.reset : State where
  tb := Timebase.afterReset
  slots := Vector.replicate 64 .free
  calendar := []
  latenessLimit := 0
  lines := Vector.replicate 16 Line.afterReset
  channels := Vector.replicate 8 Channel.afterReset
  pins := Vector.replicate 8 false
  resetPin := .released
  groups := Vector.replicate 7 Group.afterReset
  doneQueue := []
  log := []
  logThreshold := 0
  causeEnables := 0
  cmdCause := false
  cu := CommandUnit.afterReset
  busData := 0
  pending := []

end Sys2Proof.Machine
end

