-- ==== Sys2Proof/Machine/Ops.lean ====
section
/-! DEFINITION. The named operations over the part's records that the events share: reading and writing a record, the
calendar's insertion and withdrawal, claims, the capture log, completion, placement, launch, continuation and the
execution of commits. -/

namespace Sys2Proof.Machine

/-! ### Time (Section 2.4) -/

/-- The distance of `t` from `now`: `t - now` modulo 2^32, taken as a signed 32-bit number (R25). -/
def distance (now t : Tick) : Int := (t - now).toInt

/-- The current value of the timebase; every event reads it once (R21, R27). -/
def State.now (s : State) : Tick := s.tb.value

/-- The timebase is RUNNING (R24). -/
abbrev State.running (s : State) : Prop := s.tb.state = .running

/-- A difference of times as a 16-bit field: one above 65535 is taken as 65535 (R5, R83). -/
def saturateHalf (x : Nat) : Half := if 65535 < x then 65535#16 else BitVec.ofNat 16 x

/-- A counter that stops at its maximum (4.2, R5). -/
def saturatingIncrement {w : Nat} (x : BitVec w) : BitVec w :=
  if x = BitVec.allOnes w then x else x + 1

/-! ### Records by number -/

/-- All slot numbers, ascending. -/
def slotNumbers : List SlotNo := List.finRange 64

/-- All groups, ascending. -/
def groupNumbers : List GroupNo := List.finRange 7

/-- The record of slot `n`. -/
def State.slot (s : State) (n : SlotNo) : Slot := s.slots.get n

/-- `s` with the record of slot `n` replaced. -/
def State.setSlot (s : State) (n : SlotNo) (x : Slot) : State :=
  { s with slots := s.slots.set n.val x n.isLt }

/-- The record of a line. -/
def State.line (s : State) (l : LineNo) : Line := s.lines.get l

/-- `s` with the record of a line replaced. -/
def State.setLine (s : State) (l : LineNo) (x : Line) : State :=
  { s with lines := s.lines.set l.val x l.isLt }

/-- The record of a channel. -/
def State.channel (s : State) (c : ChanNo) : Channel := s.channels.get c

/-- `s` with the record of a channel replaced. -/
def State.setChannel (s : State) (c : ChanNo) (x : Channel) : State :=
  { s with channels := s.channels.set c.val x c.isLt }

/-- The record of a group. -/
def State.group (s : State) (g : GroupNo) : Group := s.groups.get g

/-- `s` with the record of a group replaced. -/
def State.setGroup (s : State) (g : GroupNo) (x : Group) : State :=
  { s with groups := s.groups.set g.val x g.isLt }

/-- `s` with its calendar replaced. -/
def State.setCalendar (s : State) (c : List Entry) : State := { s with calendar := c }

/-- `s` with its timebase record replaced. -/
def State.setTimebase (s : State) (t : Timebase) : State := { s with tb := t }

/-- `s` with its command unit replaced. -/
def State.setCommandUnit (s : State) (u : CommandUnit) : State := { s with cu := u }

/-- `s` with its capture log replaced. -/
def State.setLog (s : State) (l : List Capture) : State := { s with log := l }

/-- A change of the line a field names; nothing where the field is absent. -/
def State.onLine (s : State) (o : Option LineNo) (f : Line → Line) : State :=
  match o with
  | none => s
  | some l => s.setLine l (f (s.line l))

/-- A change of the channel a field names; nothing where the field is absent. -/
def State.onChannel (s : State) (o : Option ChanNo) (f : Channel → Channel) : State :=
  match o with
  | none => s
  | some c => s.setChannel c (f (s.channel c))

/-- What a slot that is not FREE holds. -/
def Slot.held? : Slot → Option Held
  | .free => none
  | .opened h => some h
  | .scheduled h _ => some h
  | .parked h => some h
  | .active h _ _ _ => some h
  | .complete h _ _ => some h

/-- The slot is SCHEDULED, PARKED or ACTIVE: live, as an anchor must be (R87, R90). -/
def Slot.isLive : Slot → Bool
  | .free => false
  | .opened _ => false
  | .scheduled _ _ => true
  | .parked _ => true
  | .active _ _ _ _ => true
  | .complete _ _ _ => false

/-- The slot is SCHEDULED, PARKED or ACTIVE with group field `g`: it belongs to the placed generation of `g` (R89). -/
def Slot.inPlacedGeneration (g : GroupNo) (x : Slot) : Bool :=
  x.isLive && (match x.held? with | none => false | some h => h.action.group == some g)

/-- The lowest-numbered FREE slot (R7). -/
def State.firstFree (s : State) : Option SlotNo := slotNumbers.find? (fun n => s.slot n == .free)

/-! ### The calendar (Sections 3.1 to 3.3) -/

/-- The distance of an entry's due time, taken as -2^31 for one that lies further behind (R37, R52). -/
def Entry.distance (now : Tick) (e : Entry) : Int :=
  if e.pastFloor = 0 then Machine.distance now e.due else Config.lowestDistance

/-- The entry is due: its distance is 0 or less (R26). -/
abbrev Entry.isDue (now : Tick) (e : Entry) : Prop := e.distance now ≤ 0

/-- The lateness of a release of the entry: now - due, or 2^31 for an entry further behind (R26, R52). -/
def Entry.lateness (now : Tick) (e : Entry) : Nat :=
  if e.pastFloor = 0 then (now - e.due).toNat else 2147483648

/-- Insertion after every entry whose distance is less than or equal to the new one's (R39). -/
def insertEntry (now : Tick) (new : Entry) : List Entry → List Entry
  | [] => [new]
  | e :: rest =>
    if e.distance now ≤ new.distance now then e :: insertEntry now new rest else new :: e :: rest

/-- How many ticks the time `t` lies behind `now` when it lies `past` ticks beyond -2^31, or not beyond it when `past` is
0 (R25, R52; log 10). -/
def ticksBehind (now t : Tick) (past : Nat) : Nat := if past = 0 then (now - t).toNat else 2147483648 + past

/-- How many ticks a due entry lies behind `now`. -/
def Entry.behind (now : Tick) (e : Entry) : Nat := ticksBehind now e.due e.pastFloor

/-- The insertion of an entry whose due time lies `past` ticks beyond -2^31 behind now (R39). -/
def State.insertPast (s : State) (n : SlotNo) (phase : Phase) (due : Tick) (past : Nat) : State :=
  s.setCalendar (insertEntry s.now ⟨n, phase, due, past⟩ s.calendar)

/-- The insertion of an entry for slot `n` (R39). -/
def State.insert (s : State) (n : SlotNo) (phase : Phase) (due : Tick) : State := s.insertPast n phase due 0

/-- The withdrawal of the entry of slot `n`; the remaining entries keep their order (R42). -/
def State.withdraw (s : State) (n : SlotNo) : State :=
  s.setCalendar (s.calendar.filter (fun e => e.slot != n))

/-! ### The capture log (Section 8.2) -/

/-- The overrun mark of the newest record set (R154). -/
def markNewest : List Capture → List Capture
  | [] => []
  | [c] => [{ c with overrun := true }]
  | c :: d :: rest => c :: markNewest (d :: rest)

/-- An append to the capture log: stored at the tail, or dropped with the tail record marked when the log is full
(R153, R154). -/
def State.appendCapture (s : State) (c : Capture) : State :=
  if s.log.length < Config.logCapacity then s.setLog (s.log ++ [c]) else s.setLog (markNewest s.log)

/-! ### Completion, parking and scheduling -/

/-- Completion: the slot becomes COMPLETE with its status and the time of the event, and its number goes to the tail
of the completion queue (R12, R147). The completing event takes the slot out of its old collection beside this. -/
def State.complete (s : State) (n : SlotNo) (h : Held) (status : Status) : State :=
  { s.setSlot n (.complete h status s.now) with doneQueue := s.doneQueue ++ [n] }

/-- The slot becomes SCHEDULED with a LEAD entry at `due` (R10, R39). -/
def State.scheduleLead (s : State) (n : SlotNo) (h : Held) (due : Tick) : State :=
  (s.setSlot n (.scheduled h due)).insert n .lead due

/-- `h` with remaining loaded with count (R4). -/
def Held.reloaded (h : Held) : Held := { h with remaining := h.action.count }

/-- The slot becomes PARKED at the tail of its channel's parked list (R10, R72, R127). -/
def State.park (s : State) (n : SlotNo) (h : Held) : State :=
  (s.setSlot n (.parked h)).onChannel h.action.channel (fun c => { c with parked := c.parked ++ [n] })

/-- The slot's number leaves its channel's parked list; the others keep their order (R16, R95, R127). -/
def State.unpark (s : State) (n : SlotNo) (h : Held) : State :=
  s.onChannel h.action.channel (fun c => { c with parked := c.parked.filter (· != n) })

/-- Placement: the slot's first run, by its timing mode, with remaining loaded with count (R10). -/
def State.place (s : State) (n : SlotNo) (h : Held) : State :=
  match h.action.mode with
  | .abs => s.scheduleLead n h.reloaded h.action.timeValue
  | .rel => s.scheduleLead n h.reloaded (s.now + h.action.timeValue)
  | .trig => s.park n h.reloaded

/-! ### Claims (R59, R134) -/

/-- The line of a firing goes INACTIVE and unclaimed, and the ack claim of a STROBE is released (R17, R75, R134). -/
def State.releaseClaims (s : State) (h : Held) : State :=
  let released := s.onLine h.action.line (fun l => { l with isActive := false, claim := none })
  if h.action.kind = .strobe then
    released.onChannel h.action.channel (fun c => { c with ackClaim := none })
  else released

/-- A firing cut short: its END entry withdrawn and its claims released (R17, R79, R134). -/
def State.cut (s : State) (n : SlotNo) (h : Held) : State := (s.withdraw n).releaseClaims h

/-! ### Continuation (Section 4.4) -/

/-- A re-arm: SCHEDULED one period after a base that lies `behind` ticks behind now. Its distance is the period less
`behind`, so at most the period, and one that would lie below -2^31 is taken as -2^31 (R38, R71; DEDUCED, log 19). -/
def State.rearm (s : State) (n : SlotNo) (h : Held) (base : Tick) (behind : Nat) : State :=
  let due := base + h.action.period.zeroExtend 32
  (s.setSlot n (.scheduled h due)).insertPast n .lead due (behind - (h.action.period.toNat + 2147483648))

/-- The continuation of a slot after an attempt or a firing, with the base of a re-arm and how many ticks it lies behind now
(R70 to R73). -/
def State.continuation (s : State) (n : SlotNo) (h : Held) (base : Tick) (behind : Nat) : State :=
  if h.supersedePending then s.complete n h .superseded
  else if h.action.count = 0 ∨ 0 < h.remaining.toNat then s.rearm n h base behind
  else if h.action.rearm then s.park n h.reloaded
  else s.complete n h .done

/-- How many ticks the lead due of an ACTIVE slot lies behind now: the lateness of its lead and the ticks since, which are
`width` more than its END entry lies behind where that is beyond -2^31 (R71; log 10). -/
def State.leadBehind (s : State) (h : Held) (leadDue leadTime : Tick) (leadPast endPast : Nat) : Nat :=
  ticksBehind leadTime leadDue leadPast
    + (if endPast = 0 then (s.now - leadTime).toNat else (h.action.width.getD 0).toNat + 2147483648 + endPast)

/-- How many ticks beyond -2^31 the calendar entry of slot `n` lies (log 10). -/
def State.entryPast (s : State) (n : SlotNo) : Nat :=
  match s.calendar.find? (fun e => e.slot == n) with
  | none => 0
  | some e => e.pastFloor

/-! ### Launches (Section 6.7) -/

/-- One slot of a launch enters the calendar at the trigger time plus its offset (R129). -/
def State.launchSlot (trigger : Tick) (s : State) (n : SlotNo) : State :=
  match s.slot n with
  | .parked h => s.scheduleLead n h.reloaded (trigger + h.action.timeValue)
  | _ => s

/-- The launch of a channel's whole parked list, head first (R129). -/
def State.launch (s : State) (ch : ChanNo) (trigger : Tick) : State :=
  let channel := s.channel ch
  channel.parked.foldl (State.launchSlot trigger) (s.setChannel ch { channel with parked := [] })

/-! ### Commits (Section 5.4) -/

/-- One slot under the retiring of the placed generation of `g` (R95). -/
def State.retireSlot (g : GroupNo) (s : State) (n : SlotNo) : State :=
  match s.slot n with
  | .scheduled h _ =>
    if h.action.group = some g then (s.withdraw n).complete n h .superseded else s
  | .parked h =>
    if h.action.group = some g then (s.unpark n h).complete n h .superseded else s
  | .active h leadDue leadTime leadPast =>
    if h.action.group = some g then
      s.setSlot n (.active { h with supersedePending := true } leadDue leadTime leadPast)
    else s
  | _ => s

/-- The retiring of the placed generation of `g`, in ascending slot number (R95). -/
def State.retire (s : State) (g : GroupNo) : State := slotNumbers.foldl (State.retireSlot g) s

/-- One member of an open list is placed (R97). -/
def State.placeMember (s : State) (n : SlotNo) : State :=
  match s.slot n with
  | .opened h => s.place n h
  | _ => s

/-- The group stops being PENDING; its open list waits to be placed (R94, step 1). -/
def State.stopPending (s : State) (g : GroupNo) : State :=
  s.setGroup g { s.group g with state := .empty }

/-- The group's record at the end of its commit (R98). -/
def State.closeCommit (s : State) (g : GroupNo) (cause : CommitCause) : State :=
  s.setGroup g
    { state := .empty, openList := [], lastCause := cause, done := (s.group g).done || cause != .now }

/-- The commit of group `g`, steps 1 to 4 of R94. -/
def State.commitGroup (s : State) (g : GroupNo) (replace : Bool) (cause : CommitCause) : State :=
  let stopped := s.stopPending g
  let retired := if replace then stopped.retire g else stopped
  ((s.group g).openList.foldl State.placeMember retired).closeCommit g cause

/-- The commit that group `g` owes in `s`, with its replace flag and cause. A group of the set handed over at its
anchor's release owes one with cause ANCHOR_FIRED (R99); another PENDING group owes one, with cause ANCHOR_ENDED,
when its anchor has left SCHEDULED, PARKED and ACTIVE (R87, R100; log 13). -/
def State.dueCommit (s : State) (fired : List GroupNo) (g : GroupNo) : Option (Bool × CommitCause) :=
  match (s.group g).state with
  | .pending anchor replace =>
    if fired.contains g then some (replace, .anchorFired)
    else if (s.slot anchor).isLive then none
    else some (replace, .anchorEnded)
  | _ => none

/-- The due commits of one event, executed one at a time, the lowest-numbered due group first (R101). Each group
executes at most once per event, so seven rounds empty the due set. -/
def State.runCommits : Nat → List GroupNo → State → State
  | 0, _, s => s
  | rounds + 1, fired, s =>
    match groupNumbers.findSome? (fun g => (s.dueCommit fired g).map (fun d => (g, d))) with
    | none => s
    | some (g, replace, cause) => State.runCommits rounds fired (s.commitGroup g replace cause)

/-- The commits that an event's completions have made due, with cause ANCHOR_ENDED (R100, R101). -/
def State.runEndedCommits (s : State) : State := State.runCommits 7 [] s

/-- The groups that are PENDING with anchor `n` (R99). -/
def State.pendingOn (s : State) (n : SlotNo) : List GroupNo :=
  groupNumbers.filter (fun g =>
    match (s.group g).state with
    | .pending anchor _ => anchor == n
    | _ => false)

/-- The commits handed over at the end of a LEAD release of slot `n`, with cause ANCHOR_FIRED, and those that they
make due (R74, R99, R101). -/
def State.runFiredCommits (s : State) (n : SlotNo) : State := State.runCommits 7 (s.pendingOn n) s

/-! ### Measurement state (R111, R133) -/

/-- Reference and watch absent and violation mark clear. -/
def Channel.cleared (c : Channel) : Channel :=
  { c with reference := none, watch := none, violationMark := false }

/-- Every channel's measurement state cleared (R31, R32, R133). -/
def State.clearMeasurements (s : State) : State :=
  { s with channels := Vector.ofFn (fun c => (s.channels.get c).cleared) }

end Sys2Proof.Machine
end

