-- ==== Sys2Proof/Machine/Operands.lean ====
section
/-! DEFINITION. How the commands read their parameters from the latch: multi-byte values, the codes of named values
(R179), the numbers of slots, lines, channels and groups, and the layouts of R180 and R181. -/

namespace Sys2Proof.Machine

/-- Byte `k` of the parameter latch. -/
def State.param (s : State) (k : Fin 16) : Byte := s.cu.latch.get k

/-- A 16-bit value, least significant byte first. -/
def half (b0 b1 : Byte) : Half := b1 ++ b0

/-- A 24-bit value, least significant byte first. -/
def triple (b0 b1 b2 : Byte) : BitVec 24 := b2 ++ b1 ++ b0

/-- A 32-bit value, least significant byte first. -/
def word (b0 b1 b2 b3 : Byte) : Tick := b3 ++ b2 ++ b1 ++ b0

/-! ### Named values (R179) -/

/-- The kind a byte names. -/
def Kind.ofCode (b : Byte) : Option Kind :=
  match b.toNat with
  | 1 => some .set
  | 2 => some .clear
  | 3 => some .toggle
  | 4 => some .pulse
  | 5 => some .strobe
  | 6 => some .note
  | _ => none

/-- The timing mode that bits 1..0 of PARAM1 name (R180: the value 3 names none). -/
def TimingMode.ofCode (b : BitVec 2) : Option TimingMode :=
  match b.toNat with
  | 0 => some .abs
  | 1 => some .rel
  | 2 => some .trig
  | _ => none

/-- The channel mode a byte names. -/
def ChannelMode.ofCode (b : Byte) : Option ChannelMode :=
  match b.toNat with
  | 0 => some .off
  | 1 => some .stamp
  | 2 => some .period
  | 3 => some .width
  | 4 => some .ack
  | _ => none

/-- The edge setting a byte names. -/
def EdgeSetting.ofCode (b : Byte) : Option EdgeSetting :=
  match b.toNat with
  | 0 => some .rise
  | 1 => some .fall
  | 2 => some .both
  | _ => none

/-- The sense a byte names. -/
def Sense.ofCode (b : Byte) : Option Sense :=
  match b.toNat with
  | 0 => some .shorter
  | 1 => some .longer
  | _ => none

/-- The log policy a byte names. -/
def LogPolicy.ofCode (b : Byte) : Option LogPolicy :=
  match b.toNat with
  | 0 => some .none
  | 1 => some .violations
  | 2 => some .all
  | _ => Option.none

/-- The launch source a byte names. -/
def LaunchSource.ofCode (b : Byte) : Option LaunchSource :=
  match b.toNat with
  | 0 => some .edge
  | 1 => some .violation
  | _ => none

/-- The timebase source a byte names (R181). -/
def TimeSource.ofCode (b : Byte) : Option TimeSource :=
  match b.toNat with
  | 0 => some .internal
  | 1 => some .external
  | _ => none

/-- The polarity a byte names (R181). -/
def Polarity.ofCode (b : Byte) : Option Polarity :=
  match b.toNat with
  | 0 => some .activeHigh
  | 1 => some .activeLow
  | _ => none

/-- The logical state a byte names, `true` for ACTIVE (R181). -/
def activeOfCode (b : Byte) : Option Bool :=
  match b.toNat with
  | 0 => some false
  | 1 => some true
  | _ => none

/-! ### Numbers -/

/-- The slot a byte names; a byte above 63 names none. -/
def slotOf (b : Byte) : Option SlotNo := if h : b.toNat < 64 then some ⟨b.toNat, h⟩ else none

/-- The line a byte names; a byte above 15 names none. -/
def lineOf (b : Byte) : Option LineNo := if h : b.toNat < 16 then some ⟨b.toNat, h⟩ else none

/-- The channel a byte names; a byte above 7 names none. -/
def chanOf (b : Byte) : Option ChanNo := if h : b.toNat < 8 then some ⟨b.toNat, h⟩ else none

/-- The group record a number names: none for 0 and above 7 (R86). -/
def groupOf (n : Nat) : Option GroupNo := if h : 1 ≤ n ∧ n ≤ 7 then some ⟨n - 1, by omega⟩ else none

/-- The number of a group field: 0 for no group (R86, R89). -/
def groupNumber : Option GroupNo → Nat
  | none => 0
  | some g => g.val + 1

/-! ### POST (R180) -/

/-- The parameters of a POST as the latch holds them. -/
structure PostRequest where
  kindCode : Byte
  modeCode : BitVec 2
  logOption : Bool
  rearm : Bool
  lineNumber : Byte
  channel : ChanNo
  group : Option GroupNo
  tag : Byte
  timeValue : Tick
  width : Half
  count : Half
  period : BitVec 24
deriving DecidableEq, Repr

/-- The layout of R180. -/
def State.postRequest (s : State) : PostRequest where
  kindCode := s.param 0
  modeCode := (s.param 1).extractLsb' 0 2
  logOption := (s.param 1).getLsbD 6
  rearm := (s.param 1).getLsbD 7
  lineNumber := s.param 2
  channel := ⟨(s.param 3).toNat % 8, by omega⟩
  group := groupOf ((s.param 3).toNat / 8 % 8)
  tag := s.param 4
  timeValue := word (s.param 5) (s.param 6) (s.param 7) (s.param 8)
  width := half (s.param 9) (s.param 10)
  count := half (s.param 11) (s.param 12)
  period := triple (s.param 13) (s.param 14) (s.param 15)

/-- The kind has a width: PULSE and STROBE, the kinds that become ACTIVE (R3). -/
def Kind.hasWidth : Kind → Bool
  | .pulse => true
  | .strobe => true
  | _ => false

/-- R8, check 4: a time value, width, count or period out of range or out of relation. -/
def PostRequest.badTime (p : PostRequest) (kind : Kind) (mode : TimingMode) : Bool :=
  (mode != .abs && decide (2 ^ 31 ≤ p.timeValue.toNat))
    || (kind.hasWidth && p.width == 0)
    || (p.count != 1 && p.period == 0)
    || (kind.hasWidth && p.count != 1 && decide (p.period.toNat ≤ p.width.toNat))

/-- The action a POST describes, with the fields its kind and mode do not have left absent (R2, R3). -/
def PostRequest.action (p : PostRequest) (kind : Kind) (mode : TimingMode) : Action where
  kind := kind
  mode := mode
  logOption := p.logOption
  rearm := p.rearm
  line := if kind = .note then none else lineOf p.lineNumber
  channel := if kind = .strobe ∨ mode = .trig then some p.channel else none
  group := p.group
  tag := p.tag
  timeValue := p.timeValue
  width := if kind.hasWidth then some p.width else none
  count := p.count
  period := p.period

/-! ### CHANNEL (R181) -/

/-- The six items of a channel's configuration (R108). -/
structure ChannelConfig where
  mode : ChannelMode
  edge : EdgeSetting
  limit : Tick
  sense : Sense
  policy : LogPolicy
  launchSource : LaunchSource
deriving DecidableEq, Repr

/-- The configuration the latch holds, when it passes check 2 of R112. -/
def State.channelConfig? (s : State) : Option ChannelConfig :=
  match ChannelMode.ofCode (s.param 1), EdgeSetting.ofCode (s.param 2), Sense.ofCode (s.param 7),
      LogPolicy.ofCode (s.param 8), LaunchSource.ofCode (s.param 9) with
  | some mode, some edge, some sense, some policy, some launchSource =>
    let limit := word (s.param 3) (s.param 4) (s.param 5) (s.param 6)
    if 2 ^ 31 ≤ limit.toNat ∨ (mode = .width ∧ edge = .both) then none
    else some ⟨mode, edge, limit, sense, policy, launchSource⟩
  | _, _, _, _, _ => none

/-- A channel given a configuration: all six items replaced, the measurement state cleared, the ack claim and the
parked list kept (R112). -/
def Channel.configured (c : Channel) (cfg : ChannelConfig) : Channel :=
  { c with
    mode := cfg.mode, edge := cfg.edge, limit := cfg.limit, sense := cfg.sense, policy := cfg.policy,
    launchSource := cfg.launchSource, reference := none, watch := none, violationMark := false }

end Sys2Proof.Machine
end

