-- ==== Sys2Proof/Machine/Flags.lean ====
section
/-! DEFINITION. The cause bits and the request line, the pin levels, the codes and layouts in which the part shows its
state, and the value that each location of the window reads as (Chapters 8 and 9). -/

namespace Sys2Proof.Machine

/-! ### Packing -/

/-- The number whose bit `k` is the `k`-th item of the list. -/
def natOfBits : List Bool → Nat
  | [] => 0
  | b :: rest => b.toNat + 2 * natOfBits rest

/-- Bits packed into `w` places, the first item at bit 0. -/
def packBits (w : Nat) (bits : List Bool) : BitVec w := BitVec.ofNat w (natOfBits bits)

/-- A count or a code as one byte. -/
def byteOfNat (n : Nat) : Byte := BitVec.ofNat 8 n

/-- A 16-bit value as bytes, least significant first. -/
def bytesOfHalf (x : Half) : List Byte := [x.extractLsb' 0 8, x.extractLsb' 8 8]

/-- A 32-bit value as bytes, least significant first. -/
def bytesOfTick (x : Tick) : List Byte :=
  [x.extractLsb' 0 8, x.extractLsb' 8 8, x.extractLsb' 16 8, x.extractLsb' 24 8]

/-- A 32-bit field that shows 0 when its value is absent. -/
def bytesOfTick? (x : Option Tick) : List Byte := bytesOfTick (x.getD 0)

/-- Sixteen result bytes: those given, and 0x00 in every other position (R175). -/
def resultBytes (l : List Byte) : Vector Byte 16 := Vector.ofFn (fun k => l.getD k.val 0)

/-! ### Codes (R176, R179) -/

/-- The code of a result (R176). -/
def ResultCode.code : ResultCode → Nat
  | .ok => 0
  | .badCmd => 1
  | .badKind => 2
  | .badMode => 3
  | .badLine => 4
  | .badChan => 5
  | .badGroup => 6
  | .badTime => 7
  | .badSlot => 8
  | .badCfg => 9
  | .noSlot => 10
  | .notLive => 11
  | .groupState => 12
  | .emptyGroup => 13
  | .lineBusy => 15
  | .chanBusy => 16
  | .tbState => 17
  | .calNonEmpty => 18

def Kind.code : Kind → Nat
  | .set => 1
  | .clear => 2
  | .toggle => 3
  | .pulse => 4
  | .strobe => 5
  | .note => 6

def TimingMode.code : TimingMode → Nat
  | .abs => 0
  | .rel => 1
  | .trig => 2

def Slot.code : Slot → Nat
  | .free => 0
  | .opened _ => 1
  | .scheduled _ _ => 2
  | .parked _ => 3
  | .active _ _ _ _ => 4
  | .complete _ _ _ => 5

def Status.code : Status → Nat
  | .done => 1
  | .timeout => 2
  | .cancelled => 3
  | .superseded => 4
  | .collided => 5
  | .ackBusy => 6
  | .ackOff => 7
  | .expired => 8
  | .broken => 9
  | .quiesced => 10

def ChannelMode.code : ChannelMode → Nat
  | .off => 0
  | .stamp => 1
  | .period => 2
  | .width => 3
  | .ack => 4

def EdgeSetting.code : EdgeSetting → Nat
  | .rise => 0
  | .fall => 1
  | .both => 2

def Sense.code : Sense → Nat
  | .shorter => 0
  | .longer => 1

def LogPolicy.code : LogPolicy → Nat
  | .none => 0
  | .violations => 1
  | .all => 2

def LaunchSource.code : LaunchSource → Nat
  | .edge => 0
  | .violation => 1

def GroupState.code : GroupState → Nat
  | .empty => 0
  | .filling => 1
  | .pending _ _ => 2

def CommitCause.code : CommitCause → Nat
  | .none => 0
  | .now => 1
  | .anchorFired => 2
  | .anchorEnded => 3

def CaptureKind.code : CaptureKind → Nat
  | .stamp => 1
  | .interval => 2
  | .watch => 3
  | .ack => 4
  | .stray => 5
  | .fired => 6
  | .miss => 7

def TimeState.code : TimeState → Nat
  | .stopped => 0
  | .running => 1

def Polarity.code : Polarity → Nat
  | .activeHigh => 0
  | .activeLow => 1

/-- The source byte of a capture record: the slot number, or 128 plus the channel number (R152). -/
def CaptureSource.byte : CaptureSource → Byte
  | .action n => byteOfNat n.val
  | .channel c => byteOfNat (128 + c.val)

/-- A number field that shows 0xFF when it is absent (R181 to R187). -/
def byteOrAbsent {n : Nat} : Option (Fin n) → Byte
  | none => Config.popEmpty
  | some k => byteOfNat k.val

/-! ### Causes and the request line (Sections 8.4 and 8.5) -/

/-- The DONE cause: the completion queue holds one or more slot numbers (R159). -/
def State.causeDone (s : State) : Bool := !s.doneQueue.isEmpty

/-- The LOGMARK cause: the threshold is not 0 and the log holds at least that many records (R159). -/
def State.causeLogmark (s : State) : Bool := s.logThreshold != 0 && decide (s.logThreshold ≤ s.log.length)

/-- The LOGOVR cause: some record in the log carries an overrun mark (R151, R159). -/
def State.causeLogovr (s : State) : Bool := s.log.any (·.overrun)

/-- The GROUP cause: the done flag of one or more groups is set (R159). -/
def State.causeGroup (s : State) : Bool := groupNumbers.any (fun g => (s.group g).done)

/-- The five cause bits at their positions (R182). -/
def State.causeBits (s : State) : BitVec 5 :=
  packBits 5 [s.causeDone, s.causeLogmark, s.causeLogovr, s.causeGroup, s.cmdCause]

/-- The /IRQ line is asserted exactly when some cause bit and its enable are both set (R164). -/
def State.irqAsserted (s : State) : Bool := s.causeBits &&& s.causeEnables != 0

/-! ### Output pins (R58) -/

/-- The level on a line's output pin, `true` for high. -/
def Line.pinLevel (l : Line) : Bool :=
  match l.polarity with
  | .activeHigh => l.isActive
  | .activeLow => !l.isActive

/-- The level on an output pin of the part, `true` for high. -/
def State.outputPin (s : State) (l : LineNo) : Bool := (s.line l).pinLevel

/-! ### The window's read side (R167, R182) -/

/-- CMDSTAT: busy in bit 7, overrun in bit 6, the result code in bits 4..0 (R182). -/
def State.cmdstat (s : State) : Byte :=
  byteOfNat (s.cu.resultCode.code + 64 * s.cu.overrun.toNat + 128 * s.cu.busy.toNat)

/-- GROUPDONE: the done flag of group g in bit g (R182). -/
def State.groupDoneBits (s : State) : Byte := packBits 8 (false :: groupNumbers.map (fun g => (s.group g).done))

/-- The byte a DONEPOP returns (R149). -/
def State.donepopByte (s : State) : Byte :=
  if s.cu.busy then Config.popBusy
  else match s.doneQueue with
    | [] => Config.popEmpty
    | n :: _ => byteOfNat n.val

/-- The byte a LOGPOP returns (R155). -/
def State.logpopByte (s : State) : Byte :=
  if s.cu.busy then Config.popBusy
  else match s.log with
    | [] => Config.popEmpty
    | c :: _ => c.source.byte

/-- The value that the location at `offset` holds (R167). -/
def State.location (s : State) (offset : BitVec 5) : Byte :=
  match offset.toNat with
  | 0x00 => s.cmdstat
  | 0x01 => s.causeBits.zeroExtend 8
  | 0x02 => s.causeEnables.zeroExtend 8
  | 0x03 => byteOfNat s.logThreshold
  | 0x04 => byteOfNat s.log.length
  | 0x05 => byteOfNat s.doneQueue.length
  | 0x06 => s.donepopByte
  | 0x07 => s.logpopByte
  | 0x08 => s.groupDoneBits
  | k => if h : 16 ≤ k ∧ k < 32 then s.cu.result.get ⟨k - 16, by omega⟩ else 0x00#8

/-- The value that a read of the location at `offset` returns: the value the location holds, and 0x00 while /RESET is
asserted (R167, R168). Only the two pops change anything; their effect is the commands DONEPOP and LOGPOP. -/
def State.readWindow (s : State) (offset : BitVec 5) : Byte :=
  match s.resetPin with
  | .asserted => Config.readInReset
  | .released => s.location offset

/-! ### Record and view layouts (Section 9.7) -/

/-- The completion record of a slot (R148, R183). -/
def completionRecord (n : SlotNo) (h : Held) (status : Status) (time : Tick) : List Byte :=
  [byteOfNat n.val, byteOfNat status.code, h.action.tag, byteOfNat h.action.kind.code,
    (match h.action.line with
      | some l => byteOfNat l.val
      | none => byteOrAbsent h.action.channel),
    h.missed]
  ++ bytesOfHalf h.fired ++ bytesOfTick time ++ bytesOfHalf h.worstLateness ++ bytesOfHalf h.ackLatency

/-- A capture record (R152, R184). -/
def captureRecord (c : Capture) : List Byte :=
  [c.source.byte, byteOfNat c.kind.code,
    packBits 8 [c.edge, c.violation, c.interval.isSome, c.overrun], c.tag]
  ++ bytesOfTick c.timestamp ++ bytesOfTick? c.interval ++ bytesOfHalf c.extra

/-- The time that a slot's state selects for the view (R18). -/
def Slot.viewTime : Slot → Tick
  | .free => 0
  | .opened h => h.action.timeValue
  | .scheduled _ due => due
  | .parked h => h.action.timeValue
  | .active _ _ leadTime _ => leadTime
  | .complete _ _ time => time

/-- The status code while COMPLETE; 0 otherwise (R185). -/
def Slot.viewStatus : Slot → Nat
  | .complete _ status _ => status.code
  | _ => 0

/-- RESULT2 of a slot's view: the timing mode in bits 1..0, supersede-pending, LOG and REARM in bits 5 to 7 (R185). -/
def Held.viewOptions (h : Held) : Byte :=
  byteOfNat (h.action.mode.code + 32 * h.supersedePending.toNat + 64 * h.action.logOption.toNat
    + 128 * h.action.rearm.toNat)

/-- RESULT4 of a slot's view: the channel in bits 2..0, the group in bits 5..3, bit 7 set when the channel is absent
(R185). DESIGN CHOICE (log 18): with the channel absent, bits 2..0 are 0; R185 gives them for a FREE slot only. -/
def Action.viewChannelGroup (a : Action) : Byte :=
  byteOfNat (8 * groupNumber a.group + (match a.channel with
    | none => 128
    | some c => c.val))

/-- The view of a slot (R18, R185). -/
def slotView (x : Slot) : List Byte :=
  match x.held? with
  | none => [0, 0, 0, Config.popEmpty, 0x80#8]
  | some h =>
    [byteOfNat x.code, byteOfNat h.action.kind.code, h.viewOptions, byteOrAbsent h.action.line,
      h.action.viewChannelGroup, h.action.tag, byteOfNat x.viewStatus, h.missed]
    ++ bytesOfTick x.viewTime ++ bytesOfHalf h.remaining ++ bytesOfHalf h.fired

/-- The number of slots in the placed generation of `g` (R105). -/
def State.placedCount (s : State) (g : GroupNo) : Nat :=
  slotNumbers.countP (fun n => (s.slot n).inPlacedGeneration g)

/-- The view of a group (R105, R187). -/
def State.groupView (s : State) (g : GroupNo) : List Byte :=
  let group := s.group g
  [byteOfNat group.state.code, byteOfNat group.openList.length, byteOfNat (s.placedCount g),
    (match group.state with
      | .pending anchor _ => byteOfNat anchor.val
      | _ => Config.popEmpty),
    (match group.state with
      | .pending _ replace => byteOfNat replace.toNat
      | _ => 0),
    byteOfNat group.lastCause.code]

/-- The view of a channel, with the level of its pin (R131, R186). -/
def channelView (c : Channel) (pinHigh : Bool) : List Byte :=
  [byteOfNat (c.mode.code + 8 * c.edge.code + 32 * c.sense.code + 64 * c.launchSource.code + 128 * pinHigh.toNat),
    byteOfNat (c.policy.code + 4 * c.reference.isSome.toNat + 8 * c.watch.isSome.toNat),
    byteOrAbsent c.ackClaim, byteOfNat c.parked.length]
  ++ bytesOfTick c.limit ++ bytesOfTick? c.reference ++ bytesOfTick? c.watch

/-- All line numbers, ascending. -/
def lineNumbers : List LineNo := List.finRange 16

/-- The view of all sixteen lines (R82, R187). -/
def State.linesView (s : State) : List Byte :=
  bytesOfHalf (packBits 16 (lineNumbers.map (fun l => (s.line l).isActive)))
  ++ bytesOfHalf (packBits 16 (lineNumbers.map (fun l => (s.line l).claim.isSome)))
  ++ bytesOfHalf (packBits 16 (lineNumbers.map (fun l => (s.line l).polarity == .activeLow)))

/-- The view of the timebase and the calendar (R55, R187). -/
def State.timeView (s : State) : List Byte :=
  bytesOfTick s.now ++ [byteOfNat s.tb.state.code] ++ bytesOfHalf s.latenessLimit
  ++ [byteOfNat s.calendar.length, byteOfNat s.calendar.head?.isSome.toNat]
  ++ bytesOfTick? (s.calendar.head?.map (·.due))

end Sys2Proof.Machine
end

