-- ==== Sys2Proof/Machine/Unit.lean ====
section
/-! DEFINITION. The command unit (Section 9.2): the taking of a command, the frame that every execution shares, BADCMD,
and the accesses to the parameter buffer and to the cause registers. -/

namespace Sys2Proof.Machine

/-- What the outcome type of every meaning is. -/
abbrev Outcome := Host.Outcome State Fault Refusal

/-- What the carrying out of a command answers: a result other than OK, which changes nothing else (R174), or the state
it leaves, with its result bytes (R175). -/
abbrev Reply := Except ResultCode (State × List Byte)

/-- The end of an execution with a result: busy cleared and the CMD cause set (R173, steps 1, 3 and 4). -/
def State.endExecution (s : State) (code : ResultCode) : State :=
  { s with cu := { s.cu with resultCode := code, busy := false }, cmdCause := true }

/-- The result buffer written over all sixteen bytes (R175). -/
def State.writeResult (s : State) (bytes : List Byte) : State :=
  { s with cu := { s.cu with result := resultBytes bytes } }

/-- The end of the execution of a command that answered `reply` in state `s` (R173 to R175). -/
def State.finish (s : State) (reply : Reply) : State :=
  match reply with
  | .error code => s.endExecution code
  | .ok (after, bytes) => (after.writeResult bytes).endExecution .ok

/-- The taken command is waiting for its execution and its latched code is `code` (R171, R173). -/
abbrev State.latched (s : State) (code : Byte) : Prop := s.cu.busy = true ∧ s.cu.code = code

/-- A TIMEBASE or INSPECT is waiting whose PARAM0 names the row's own operation or target, or names none at all: `last` is
the greatest byte that names one (R29, R181; log 3). -/
abbrev State.latchedAs (s : State) (code : Byte) (own last : Nat) : Prop :=
  s.latched code ∧ ((s.param 0).toNat = own ∨ last < (s.param 0).toNat)

/-! ### The command codes (R177) -/

def codePost : Byte := 0x01#8
def codeCancel : Byte := 0x02#8
def codeCommit : Byte := 0x03#8
def codeDiscard : Byte := 0x04#8
def codeChannel : Byte := 0x05#8
def codeLine : Byte := 0x06#8
def codeForce : Byte := 0x07#8
def codeTimebase : Byte := 0x08#8
def codeLateness : Byte := 0x09#8
def codeFlush : Byte := 0x0A#8
def codeQuiesce : Byte := 0x0B#8
def codeInspect : Byte := 0x0C#8

/-- The byte is one of the twelve command codes (R177). -/
def isCommandCode (b : Byte) : Bool := decide (1 ≤ b.toNat ∧ b.toNat ≤ 12)

/-! ### Effects of bus accesses -/

/-- A bus access takes effect only while /RESET is released (R168). -/
def State.access (s after : State) : State :=
  match s.resetPin with
  | .asserted => s
  | .released => after

/-- A write to CMD: it takes a command, or is discarded with overrun while the unit is busy (R171, R172). -/
def State.writeCmd (s : State) (code : Byte) : State :=
  if s.cu.busy then s.setCommandUnit { s.cu with overrun := true }
  else
    { s with
      cu := { s.cu with code := code, latch := s.cu.params, busy := true, overrun := false }
      cmdCause := false }

/-- A write to ACKCAUSE: a 1 in CMD's place, bit 4, clears CMD (R162, R182). -/
def State.writeAckcause (s : State) (value : Byte) : State :=
  { s with cmdCause := s.cmdCause && !value.getLsbD 4 }

/-- A write to CAUSEEN: all five enables replaced; places that name no cause ignored (R163). -/
def State.writeCauseen (s : State) (value : Byte) : State :=
  { s with causeEnables := value.extractLsb' 0 5 }

/-- A write to LOGMARK: the value stored, one above 32 as 32 (R158). -/
def State.writeLogmark (s : State) (value : Byte) : State :=
  { s with logThreshold := min value.toNat Config.logCapacity }

/-- A write to GROUPDONE: a 1 in bit g clears the done flag of group g (R104, R182). -/
def State.writeGroupdone (s : State) (value : Byte) : State :=
  { s with
    groups := Vector.ofFn (fun g =>
      let group := s.groups.get g
      { group with done := group.done && !value.getLsbD (g.val + 1) }) }

/-- A write to a parameter buffer position stores its byte, at any time (R169). -/
def State.writeParam (s : State) (k : Fin 16) (value : Byte) : State :=
  s.setCommandUnit { s.cu with params := s.cu.params.set k.val value k.isLt }

/-- A write to any location of the window (R167). -/
def State.writeWindow (s : State) (offset : BitVec 5) (value : Byte) : State :=
  match offset.toNat with
  | 0x00 => s.writeCmd value
  | 0x01 => s.writeAckcause value
  | 0x02 => s.writeCauseen value
  | 0x03 => s.writeLogmark value
  | 0x08 => s.writeGroupdone value
  | k => if h : 16 ≤ k ∧ k < 32 then s.writeParam ⟨k - 16, by omega⟩ value else s

/-! ### Meanings -/

/-- TAKING (R171, R172). -/
def execTaking (code : Byte) (s : State) : Outcome := .next (s.access (s.writeCmd code))

/-- BADCMD: a latched byte that is no command code ends with result BADCMD and changes nothing else (R177). -/
def execBadcmd (s : State) : Outcome :=
  .next (if s.cu.busy = true ∧ isCommandCode s.cu.code = false then s.finish (.error .badCmd) else s)

/-- ACKCAUSE (R162). -/
def execAckcause (value : Byte) (s : State) : Outcome := .next (s.access (s.writeAckcause value))

/-- CAUSEEN (R163). -/
def execCauseen (value : Byte) (s : State) : Outcome := .next (s.access (s.writeCauseen value))

/-- LOGMARK (R158). -/
def execLogmark (value : Byte) (s : State) : Outcome := .next (s.access (s.writeLogmark value))

/-- GROUPDONE (R104). -/
def execGroupdone (value : Byte) (s : State) : Outcome := .next (s.access (s.writeGroupdone value))

/-- REGISTER_WRITE: a parameter byte stored, or a write that is ignored (R167, R169). A location that has a row of its
own has that row's effect (log 17). -/
def execRegisterWrite (offset : BitVec 5) (value : Byte) (s : State) : Outcome :=
  .next (s.access (s.writeWindow offset value))

/-- HARDWARE_RESET: every block at its reset values and any taken command and any work in progress gone (R188, R189).
The values are taken while /RESET is asserted and kept after its release, with which the event ends (log 9). The levels of
the input pins are the outside's and stay as they are (log 5). -/
def execHardwareReset (s : State) : Outcome := .next { State.reset with pins := s.pins, pending := s.pending }

end Sys2Proof.Machine
end

