-- ==== Sys2Proof/Machine/Channels.lean ====
section
/-! DEFINITION. The input channels (Chapter 6) and the acknowledge of a strobe (Chapter 7): CHANNEL, EDGE, WATCH_EXPIRY
and REFERENCE_EXPIRY. -/

namespace Sys2Proof.Machine

/-! ### CHANNEL -/

/-- The carrying out of a CHANNEL: the previous mode in RESULT0, the parked count in RESULT1 (R112). -/
def State.replyChannel (s : State) : Reply :=
  match chanOf (s.param 0) with
  | none => .error .badChan
  | some c =>
    match s.channelConfig? with
    | none => .error .badCfg
    | some cfg =>
      if (s.channel c).ackClaim.isSome then .error .chanBusy
      else .ok (s.setChannel c ((s.channel c).configured cfg),
        [byteOfNat (s.channel c).mode.code, byteOfNat (s.channel c).parked.length])

/-- CHANNEL (R112). -/
def execChannel (s : State) : Outcome := .next (if s.latched codeChannel then s.finish s.replyChannel else s)

/-! ### Records of a channel (R125, R126) -/

/-- A record of a channel with the fields R126 gives every kind: tag and extra 0, overrun mark clear. -/
def channelCapture (ch : ChanNo) (kind : CaptureKind) (edge violation : Bool) (timestamp : Tick)
    (interval : Option Tick) : Capture :=
  { source := .channel ch, kind := kind, edge := edge, violation := violation, overrun := false, tag := 0,
    timestamp := timestamp, interval := interval, extra := 0 }

/-- The log policy lets a record through: ALL every record, VIOLATIONS one whose violation flag is set, NONE none
(R125; the records appended under VIOLATIONS are exactly those that carry the flag). -/
def LogPolicy.admits (p : LogPolicy) (violation : Bool) : Bool :=
  match p with
  | .all => true
  | .violations => violation
  | .none => false

/-- A record of channel `ch`, appended as its log policy decides (R125). -/
def State.logChannel (s : State) (ch : ChanNo) (record : Capture) : State :=
  if (s.channel ch).policy.admits record.violation then s.appendCapture record else s

/-! ### Intervals (Section 6.4.1) -/

/-- The interval is a violation of the channel's limit (R116). -/
def Channel.isViolation (c : Channel) (interval : Tick) : Bool :=
  c.limit != 0 && (match c.sense with
    | .shorter => decide (interval.toNat < c.limit.toNat)
    | .longer => decide (c.limit.toNat < interval.toNat))

/-- The watch set with a reference at `t` (R117 to R119, R122). -/
def Channel.watchFrom (c : Channel) (t : Tick) : Option Tick :=
  if c.sense = .longer ∧ c.limit ≠ 0 then some (t + c.limit) else none

/-- `t` becomes the reference, the mark is cleared and the watch is set or made absent (R117 to R119). -/
def Channel.restarted (c : Channel) (t : Tick) : Channel :=
  { c with reference := some t, watch := c.watchFrom t, violationMark := false }

/-! ### Expiries (Section 6.5) -/

/-- The expiry of a watch with deadline `d`: record, mark, watch absent, and a launch with source VIOLATION (R122). -/
def State.expireWatch (s : State) (ch : ChanNo) (d : Tick) : State :=
  let logged := s.logChannel ch (channelCapture ch .watch false true d (some (s.channel ch).limit))
  let marked := logged.setChannel ch { logged.channel ch with violationMark := true, watch := none }
  if (s.channel ch).launchSource = .violation then marked.launch ch d else marked

/-- A reference is dropped, together with any watch, and the mark is cleared (R124). -/
def State.dropReference (s : State) (ch : ChanNo) : State := s.setChannel ch (s.channel ch).cleared

/-- The timebase has reached the channel's watch deadline (R122). -/
def State.reachedWatch (s : State) (ch : ChanNo) : Option Tick :=
  (s.channel ch).watch.filter (fun d => decide (distance s.now d ≤ 0))

/-- The channel's reference has become 2^31 - 1 ticks old (R124). -/
def State.referenceExpired (s : State) (ch : ChanNo) : Bool :=
  match (s.channel ch).reference with
  | none => false
  | some r => decide (Config.referenceLife ≤ (s.now - r).toNat)

/-- A watch that the timebase has reached expires; otherwise nothing happens. -/
def State.takeReachedWatch (s : State) (ch : ChanNo) : State :=
  match s.reachedWatch ch with
  | none => s
  | some d => s.expireWatch ch d

/-- The expiries that an edge stamped now must follow: those whose time lies before now (R109; log 6). -/
def State.catchUp (s : State) (ch : ChanNo) : State :=
  let watched := match (s.channel ch).watch with
    | none => s
    | some d => if distance s.now d < 0 then s.expireWatch ch d else s
  match (s.channel ch).reference with
  | none => watched
  | some r => if Config.referenceLife < (s.now - r).toNat then watched.dropReference ch else watched

/-! ### Edges by mode (Section 6.4) -/

/-- The edge setting selects an edge (R109). -/
def EdgeSetting.selects (e : EdgeSetting) (dir : EdgeDir) : Bool :=
  match e, dir with
  | .rise, .rising => true
  | .rise, .falling => false
  | .fall, .rising => false
  | .fall, .falling => true
  | .both, _ => true

/-- The edge flag of a record: set for a rising edge (R126). -/
def edgeFlag : EdgeDir → Bool
  | .rising => true
  | .falling => false

/-- A selected edge in STAMP mode: a STAMP record, then a launch with source EDGE (R115). -/
def State.stampEdge (s : State) (ch : ChanNo) (dir : EdgeDir) : State :=
  let logged := s.logChannel ch (channelCapture ch .stamp (edgeFlag dir) false s.now none)
  if (s.channel ch).launchSource = .edge then logged.launch ch s.now else logged

/-- A selected edge that finds no reference in PERIOD mode, and every start edge in WIDTH mode: a measurement opens, and
source EDGE launches (R117, R119). -/
def State.openInterval (s : State) (ch : ChanNo) : State :=
  let opened := s.setChannel ch ((s.channel ch).restarted s.now)
  if (s.channel ch).launchSource = .edge then opened.launch ch s.now else opened

/-- The INTERVAL record of an edge that closes the interval since `reference` (R116, R118, R120). -/
def State.logInterval (s : State) (ch : ChanNo) (dir : EdgeDir) (reference : Tick) : State :=
  let c := s.channel ch
  let interval := s.now - reference
  s.logChannel ch
    (channelCapture ch .interval (edgeFlag dir) (c.isViolation interval || c.violationMark) s.now (some interval))

/-- A closing edge launches under source VIOLATION: the interval is a violation and the mark was clear (R118, R120). -/
def State.closingLaunches (s : State) (ch : ChanNo) (reference : Tick) : Bool :=
  let c := s.channel ch
  c.launchSource == .violation && c.isViolation (s.now - reference) && !c.violationMark

/-- A selected edge in PERIOD mode that finds a reference (R118). -/
def State.periodClose (s : State) (ch : ChanNo) (dir : EdgeDir) (reference : Tick) : State :=
  let logged := s.logInterval ch dir reference
  let restarted := logged.setChannel ch ((logged.channel ch).restarted s.now)
  if (s.channel ch).launchSource = .edge ∨ s.closingLaunches ch reference = true then restarted.launch ch s.now
  else restarted

/-- A selected edge in PERIOD mode (R117, R118). -/
def State.periodEdge (s : State) (ch : ChanNo) (dir : EdgeDir) : State :=
  match (s.channel ch).reference with
  | none => s.openInterval ch
  | some reference => s.periodClose ch dir reference

/-- A closing edge in WIDTH mode; without a reference it is ignored (R120). -/
def State.widthClose (s : State) (ch : ChanNo) (dir : EdgeDir) : State :=
  match (s.channel ch).reference with
  | none => s
  | some reference =>
    let logged := s.logInterval ch dir reference
    let ended := logged.setChannel ch (logged.channel ch).cleared
    if s.closingLaunches ch reference = true then ended.launch ch s.now else ended

/-- The ack latency of an acknowledge: its time minus the lead time, 65535 when larger (R137, step 4). -/
def Held.acknowledged (h : Held) (t leadTime : Tick) : Held :=
  { h with ackLatency := saturateHalf (t - leadTime).toNat }

/-- The acknowledge of the strobe of slot `n` (R137, R138). -/
def State.acknowledge (s : State) (ch : ChanNo) (dir : EdgeDir) (n : SlotNo) : State :=
  let logged := s.logChannel ch (channelCapture ch .ack (edgeFlag dir) false s.now none)
  match s.slot n with
  | .active h leadDue leadTime leadPast =>
    ((logged.cut n h).continuation n (h.acknowledged s.now leadTime) leadDue
      (s.leadBehind h leadDue leadTime leadPast (s.entryPast n))).runEndedCommits
  | _ => logged.setChannel ch { logged.channel ch with ackClaim := none }

/-- A selected edge in ACK mode: an acknowledge, or a stray that only logs (R121, R136, R141). -/
def State.ackEdge (s : State) (ch : ChanNo) (dir : EdgeDir) : State :=
  match (s.channel ch).ackClaim with
  | some n => s.acknowledge ch dir n
  | none => s.logChannel ch (channelCapture ch .stray (edgeFlag dir) true s.now none)

/-- What a channel does with an edge while the timebase is RUNNING, by its mode (R109, R114 to R121). -/
def State.observeEdge (s : State) (ch : ChanNo) (dir : EdgeDir) : State :=
  let c := s.channel ch
  match c.mode with
  | .off => s
  | .stamp => if c.edge.selects dir then s.stampEdge ch dir else s
  | .period => if c.edge.selects dir then (s.catchUp ch).periodEdge ch dir else s
  | .width => if c.edge.selects dir then (s.catchUp ch).openInterval ch else (s.catchUp ch).widthClose ch dir
  | .ack => if c.edge.selects dir then s.ackEdge ch dir else s

/-- The pin's level follows an edge in either timebase state (R110). -/
def State.setPin (s : State) (ch : ChanNo) (high : Bool) : State :=
  { s with pins := s.pins.set ch.val high ch.isLt }

/-- EDGE: the pin's level changes, and while the timebase is RUNNING the channel acts on the edge (R109, R110). -/
def execEdge (ch : ChanNo) (dir : EdgeDir) (s : State) : Outcome :=
  .next (if s.running then (s.setPin ch (edgeFlag dir)).observeEdge ch dir else s.setPin ch (edgeFlag dir))

/-- WATCH_EXPIRY: while RUNNING, when the timebase has reached the deadline of the channel's watch (R24, R122). -/
def execWatchExpiry (ch : ChanNo) (s : State) : Outcome :=
  .next (if s.running then s.takeReachedWatch ch else s)

/-- REFERENCE_EXPIRY: while RUNNING, when the channel's reference has become 2^31 - 1 ticks old; a watch reached by then
expires first (R24, R124; log 7). -/
def execReferenceExpiry (ch : ChanNo) (s : State) : Outcome :=
  .next (if s.running ∧ s.referenceExpired ch = true then (s.takeReachedWatch ch).dropReference ch else s)

end Sys2Proof.Machine
end

