-- ==== Sys2Proof/Machine/Firing.lean ====
section
/-! DEFINITION. The lateness limit and the releases of calendar entries: the attempt of a LEAD entry (Sections 4.2 and
4.3), the trail of a PULSE (Section 4.5) and the timeout of a STROBE (Section 7.3). -/

namespace Sys2Proof.Machine

/-! ### LATENESS -/

/-- The carrying out of a LATENESS: the limit replaced, the previous one in RESULT0 and RESULT1 (R54). -/
def State.replyLateness (s : State) : Reply :=
  .ok ({ s with latenessLimit := half (s.param 0) (s.param 1) }, bytesOfHalf s.latenessLimit)

/-- LATENESS (R54). -/
def execLateness (s : State) : Outcome := .next (if s.latched codeLateness then s.finish s.replyLateness else s)

/-! ### The checks of an attempt -/

/-- The judgement of a lateness against the limit (R53). -/
def State.judgedExpired (s : State) (lateness : Nat) : Bool :=
  s.latenessLimit != 0 && decide (s.latenessLimit.toNat < lateness)

/-- The line a slot names is claimed (R61, check 2). -/
def State.lineClaimed (s : State) (h : Held) : Bool :=
  match h.action.line with
  | none => false
  | some l => (s.line l).claim.isSome

/-- The channel a slot names, as checks 3 and 4 of R61 read it. -/
def State.channelOf (s : State) (h : Held) : Option Channel := h.action.channel.map s.channel

/-- Why an attempt is refused: the first check of R61 that holds, or none. -/
def State.refusal (s : State) (h : Held) (lateness : Nat) : Option Status :=
  if s.judgedExpired lateness then some .expired
  else if s.lineClaimed h then some .collided
  else if h.action.kind = .strobe then
    match s.channelOf h with
    | none => some .ackOff
    | some c =>
      if c.mode ≠ .ack then some .ackOff
      else if c.ackClaim.isSome then some .ackBusy
      else none
  else none

/-! ### Records of the action engine (R83) -/

/-- The FIRED record of a slot with the LOG option; the edge flag is the line's logical state after the firing. -/
def State.logFired (s : State) (n : SlotNo) (h : Held) (lateness : Nat) : State :=
  if h.action.logOption then
    s.appendCapture
      { source := .action n, kind := .fired,
        edge := (match h.action.line with
          | none => false
          | some l => (s.line l).isActive),
        violation := false, overrun := false, tag := h.action.tag, timestamp := s.now, interval := none,
        extra := saturateHalf lateness }
  else s

/-- The MISS record of a slot with the LOG option; the extra field is the code of the reason. -/
def State.logMiss (s : State) (n : SlotNo) (h : Held) (reason : Status) : State :=
  if h.action.logOption then
    s.appendCapture
      { source := .action n, kind := .miss, edge := false, violation := false, overrun := false,
        tag := h.action.tag, timestamp := s.now, interval := none, extra := BitVec.ofNat 16 reason.code }
  else s

/-! ### The attempt -/

/-- An attempt counted: remaining goes down by one when the count is not 0 (R62). -/
def Held.attempted (h : Held) : Held :=
  if h.action.count = 0 then h else { h with remaining := h.remaining - 1 }

/-- The missed count after a miss (R64). -/
def Held.withMiss (h : Held) : Held := { h with missed := saturatingIncrement h.missed }

/-- The statistics after a performed attempt (R65). -/
def Held.withFiring (h : Held) (lateness : Nat) : Held :=
  { h with
    fired := saturatingIncrement h.fired
    worstLateness :=
      if h.worstLateness.toNat < (saturateHalf lateness).toNat then saturateHalf lateness else h.worstLateness }

/-- The continuation after an attempt at the release of `e`, from its due time (R71). -/
def State.continueLead (s : State) (e : Entry) (h : Held) : State := s.continuation e.slot h e.due (e.behind s.now)

/-- A refused attempt: a single one completes the slot with the reason (R63), another is a miss (R64). -/
def State.refuseAttempt (s : State) (e : Entry) (h : Held) (reason : Status) : State :=
  if h.action.count = 1 then s.complete e.slot h reason
  else (s.logMiss e.slot h reason).continueLead e h.withMiss

/-- The lead of a PULSE or STROBE: line ACTIVE and claimed, the ack claim of a STROBE set, the slot ACTIVE with an END
entry (R68, R69). -/
def State.beginFiring (s : State) (e : Entry) (h : Held) : State :=
  let claimed := s.onLine h.action.line (fun l => { l with isActive := true, claim := some e.slot })
  let answering :=
    if h.action.kind = .strobe then
      claimed.onChannel h.action.channel (fun c => { c with ackClaim := some e.slot })
    else claimed
  (answering.setSlot e.slot (.active h e.due s.now e.pastFloor)).insert e.slot .trailing
    (s.now + (h.action.width.getD 0).zeroExtend 32)

/-- A performed attempt: statistics, the kind's effect, any FIRED record, and the continuation of a kind that does not
become ACTIVE (R60, steps 4 and 5; R65 to R69). -/
def State.performAttempt (s : State) (e : Entry) (h : Held) : State :=
  let lateness := e.lateness s.now
  let counted := h.withFiring lateness
  match h.action.kind with
  | .set =>
    ((s.onLine h.action.line (fun l => { l with isActive := true })).logFired e.slot counted lateness).continueLead e counted
  | .clear =>
    ((s.onLine h.action.line (fun l => { l with isActive := false })).logFired e.slot counted lateness).continueLead e counted
  | .toggle =>
    ((s.onLine h.action.line (fun l => { l with isActive := !l.isActive })).logFired e.slot counted lateness).continueLead e counted
  | .note => (s.logFired e.slot counted lateness).continueLead e counted
  | .pulse => (s.beginFiring e counted).logFired e.slot counted lateness
  | .strobe => (s.beginFiring e counted).logFired e.slot counted lateness

/-- The attempt of the release of the LEAD entry `e` (R60, steps 1 to 5). -/
def State.attempt (s : State) (e : Entry) (h : Held) : State :=
  match s.refusal h (e.lateness s.now) with
  | some reason => s.refuseAttempt e h.attempted reason
  | none => s.performAttempt e h.attempted

/-! ### Releases -/

/-- The release of a LEAD entry: the entry leaves the calendar, the attempt is carried out, and the commits pending on
the slot as anchor execute at its end (R46, R60, R74). -/
def State.releaseLead (s : State) (e : Entry) (rest : List Entry) : State :=
  match s.slot e.slot with
  | .scheduled h _ =>
    ((s.setCalendar rest).attempt e h).runFiredCommits e.slot
  | _ => s.setCalendar rest

/-- The trail of a PULSE: line INACTIVE, claim released, then the continuation from the lead due, which lies `behind` ticks
behind now (R75). -/
def State.trail (s : State) (n : SlotNo) (h : Held) (leadDue : Tick) (behind : Nat) : State :=
  (s.releaseClaims h).continuation n h leadDue behind

/-- The timeout of a STROBE: line INACTIVE, both claims released, the slot completed TIMEOUT (R139). -/
def State.timeout (s : State) (n : SlotNo) (h : Held) : State := (s.releaseClaims h).complete n h .timeout

/-- The release of an END entry: the trail of a PULSE or the timeout of a STROBE, never judged, then the commits that a
completion has made due (R47, R75, R100, R139). -/
def State.releaseEnd (s : State) (e : Entry) (rest : List Entry) : State :=
  match s.slot e.slot with
  | .active h leadDue leadTime leadPast =>
    if h.action.kind = .strobe then ((s.setCalendar rest).timeout e.slot h).runEndedCommits
    else ((s.setCalendar rest).trail e.slot h leadDue (s.leadBehind h leadDue leadTime leadPast e.pastFloor)).runEndedCommits
  | _ => s.setCalendar rest

/-- LEAD_RELEASE: while RUNNING, when the head of the calendar is a due LEAD entry (R45, R46). -/
def execLeadRelease (s : State) : Outcome :=
  .next (match s.calendar with
    | [] => s
    | e :: rest => if s.running ∧ e.isDue s.now ∧ e.phase = .lead then s.releaseLead e rest else s)

/-- END_RELEASE: while RUNNING, when the head of the calendar is a due END entry (R45, R47). -/
def execEndRelease (s : State) : Outcome :=
  .next (match s.calendar with
    | [] => s
    | e :: rest => if s.running ∧ e.isDue s.now ∧ e.phase = .trailing then s.releaseEnd e rest else s)

end Sys2Proof.Machine
end

