-- ==== Sys2Proof/Machine/Groups.lean ====
section
/-! DEFINITION. COMMIT and DISCARD (Chapter 5). -/

namespace Sys2Proof.Machine

/-! ### COMMIT -/

/-- The number of slots of the placed generation of `g` that a retiring completes SUPERSEDED (R91, R95). -/
def State.supersededCount (s : State) (g : GroupNo) : Nat :=
  slotNumbers.countP (fun n => match s.slot n with
    | .scheduled h _ => h.action.group == some g
    | .parked h => h.action.group == some g
    | _ => false)

/-- The number of ACTIVE slots of the placed generation of `g` that a retiring marks supersede-pending; a slot marked
before is left as it is and not counted (R91, R95; log 12). -/
def State.markedCount (s : State) (g : GroupNo) : Nat :=
  slotNumbers.countP (fun n => match s.slot n with
    | .active h _ _ _ => h.action.group == some g && !h.supersedePending
    | _ => false)

/-- COMMIT with NOW: the commit executes at once, then the commits it has made due (R91, R94, R101). -/
def State.replyCommitNow (s : State) (g : GroupNo) (replace : Bool) : State × List Byte :=
  ((s.commitGroup g replace .now).runEndedCommits,
    [byteOfNat (s.group g).openList.length,
      byteOfNat (if replace then s.supersededCount g else 0),
      byteOfNat (if replace then s.markedCount g else 0)])

/-- COMMIT with ANCHOR: the group becomes PENDING on the anchor (R92). -/
def State.replyCommitAnchor (s : State) (g : GroupNo) (anchor : SlotNo) (replace : Bool) : State × List Byte :=
  (s.setGroup g { s.group g with state := .pending anchor replace },
    [byteOfNat (s.group g).openList.length, byteOfNat (s.slot anchor).code])

/-- The carrying out of a COMMIT, with the checks of R90 in order. PARAM1 is 0 for NOW and 1 for ANCHOR (R181). -/
def State.replyCommit (s : State) : Reply :=
  match groupOf (s.param 0).toNat with
  | none => .error .badGroup
  | some g =>
    let replace := (s.param 2).getLsbD 0
    if 1 < (s.param 1).toNat then .error .badCfg
    else if (s.param 1).toNat = 1 ∧ slotOf (s.param 3) = none then .error .badSlot
    else match (s.group g).state with
      | .pending _ _ => .error .groupState
      | state =>
        if state = .empty ∧ replace = false then .error .emptyGroup
        else if (s.param 1).toNat = 0 then .ok (s.replyCommitNow g replace)
        else match slotOf (s.param 3) with
          | none => .error .badSlot
          | some anchor =>
            if (s.slot anchor).isLive then .ok (s.replyCommitAnchor g anchor replace) else .error .notLive

/-- COMMIT (R90 to R102). -/
def execCommit (s : State) : Outcome := .next (if s.latched codeCommit then s.finish s.replyCommit else s)

/-! ### DISCARD -/

/-- An OPEN slot returns to FREE (R103). -/
def State.freeOpen (s : State) (n : SlotNo) : State :=
  match s.slot n with
  | .opened _ => s.setSlot n .free
  | _ => s

/-- The group EMPTY, with its open list empty and its anchor and replace flag absent (R103, R107). -/
def Group.emptied (group : Group) : Group := { group with state := .empty, openList := [] }

/-- The carrying out of a DISCARD: the members freed in RESULT0, a dropped commit in RESULT1 (R103). -/
def State.replyDiscard (s : State) : Reply :=
  match groupOf (s.param 0).toNat with
  | none => .error .badGroup
  | some g =>
    .ok ((((s.group g).openList.foldl State.freeOpen s).setGroup g (s.group g).emptied),
      [byteOfNat (s.group g).openList.length,
        byteOfNat (match (s.group g).state with
          | .pending _ _ => 1
          | _ => 0)])

/-- DISCARD (R103). -/
def execDiscard (s : State) : Outcome := .next (if s.latched codeDiscard then s.finish s.replyDiscard else s)

end Sys2Proof.Machine
end

