-- ==== Sys2Proof/Machine/Inspect.lean ====
section
/-! DEFINITION. INSPECT and its five targets (R18, R55, R82, R105, R131). -/

namespace Sys2Proof.Machine

/-- The targets of INSPECT (R181). -/
def targetSlot : Nat := 0
def targetGroup : Nat := 1
def targetChannel : Nat := 2
def targetLines : Nat := 3
def targetTime : Nat := 4

/-- The carrying out of an INSPECT: a target byte above 4 is refused BADCFG before the index is checked (R181);
otherwise the target's own view. -/
def State.replyInspect (s : State) (view : Except ResultCode (List Byte)) : Reply :=
  if targetTime < (s.param 0).toNat then .error .badCfg
  else match view with
    | .error code => .error code
    | .ok bytes => .ok (s, bytes)

/-- The view of the slot that PARAM1 names (R18). -/
def State.viewOfSlot (s : State) : Except ResultCode (List Byte) :=
  match slotOf (s.param 1) with
  | none => .error .badSlot
  | some n => .ok (slotView (s.slot n))

/-- The view of the group that PARAM1 names (R105). -/
def State.viewOfGroup (s : State) : Except ResultCode (List Byte) :=
  match groupOf (s.param 1).toNat with
  | none => .error .badGroup
  | some g => .ok (s.groupView g)

/-- The view of the channel that PARAM1 names (R131). -/
def State.viewOfChannel (s : State) : Except ResultCode (List Byte) :=
  match chanOf (s.param 1) with
  | none => .error .badChan
  | some c => .ok (channelView (s.channel c) (s.pins.get c))

/-- INSPECT SLOT (R18). -/
def execInspectSlot (s : State) : Outcome :=
  .next (if s.latchedAs codeInspect targetSlot targetTime then s.finish (s.replyInspect s.viewOfSlot) else s)

/-- INSPECT GROUP (R105). -/
def execInspectGroup (s : State) : Outcome :=
  .next (if s.latchedAs codeInspect targetGroup targetTime then s.finish (s.replyInspect s.viewOfGroup) else s)

/-- INSPECT CHANNEL (R131). -/
def execInspectChannel (s : State) : Outcome :=
  .next (if s.latchedAs codeInspect targetChannel targetTime then s.finish (s.replyInspect s.viewOfChannel) else s)

/-- INSPECT LINES (R82). -/
def execInspectLines (s : State) : Outcome :=
  .next (if s.latchedAs codeInspect targetLines targetTime then s.finish (s.replyInspect (.ok s.linesView)) else s)

/-- INSPECT TIME (R55). -/
def execInspectTime (s : State) : Outcome :=
  .next (if s.latchedAs codeInspect targetTime targetTime then s.finish (s.replyInspect (.ok s.timeView)) else s)

end Sys2Proof.Machine
end

