-- ==== Sys2Proof/Machine/Lines.lean ====
section
/-! DEFINITION. LINE and FORCE (Sections 4.7 and 4.8). -/

namespace Sys2Proof.Machine

/-! ### LINE -/

/-- The carrying out of a LINE: the previous polarity in RESULT0 (R81). -/
def State.replyLine (s : State) : Reply :=
  match lineOf (s.param 0) with
  | none => .error .badLine
  | some l =>
    match Polarity.ofCode (s.param 1) with
    | none => .error .badCfg
    | some polarity =>
      if (s.line l).claim.isSome then .error .lineBusy
      else .ok (s.setLine l { s.line l with polarity := polarity }, [byteOfNat (s.line l).polarity.code])

/-- LINE (R81). -/
def execLine (s : State) : Outcome := .next (if s.latched codeLine then s.finish s.replyLine else s)

/-! ### FORCE -/

/-- The line set to a logical state (R78; R79, step 4). -/
def State.driveLine (s : State) (l : LineNo) (isActive : Bool) : State :=
  s.setLine l { s.line l with isActive := isActive }

/-- Steps 1 to 3 of R79: the claimant's END entry withdrawn, its claims released, its slot completed BROKEN. -/
def State.breakFiring (s : State) (l : LineNo) (n : SlotNo) : State :=
  match s.slot n with
  | .active h _ _ _ => (s.cut n h).complete n h .broken
  | _ => s.setLine l { s.line l with claim := none }

/-- The carrying out of a FORCE: the previous state in RESULT0, the slot broken or 0xFF in RESULT1 (R77 to R79). -/
def State.replyForce (s : State) : Reply :=
  match lineOf (s.param 0) with
  | none => .error .badLine
  | some l =>
    match activeOfCode (s.param 1) with
    | none => .error .badCfg
    | some isActive =>
      let previous := byteOfNat (s.line l).isActive.toNat
      match (s.line l).claim with
      | none => .ok (s.driveLine l isActive, [previous, Config.popEmpty])
      | some n =>
        if (s.param 2).getLsbD 0 = false then .error .lineBusy
        else .ok (((s.breakFiring l n).driveLine l isActive).runEndedCommits, [previous, byteOfNat n.val])

/-- FORCE (R77 to R79). -/
def execForce (s : State) : Outcome := .next (if s.latched codeForce then s.finish s.replyForce else s)

end Sys2Proof.Machine
end

