-- ==== Sys2Proof/Machine/Quiesce.lean ====
section
/-! DEFINITION. QUIESCE (R178 and each block's own rule on it). -/

namespace Sys2Proof.Machine

/-- The slot is SCHEDULED, PARKED or ACTIVE: a QUIESCE completes it (R20). -/
def State.placedTotal (s : State) : Nat := slotNumbers.countP (fun n => (s.slot n).isLive)

/-- The number of OPEN slots (R178). -/
def State.openTotal (s : State) : Nat :=
  slotNumbers.countP (fun n => match s.slot n with
    | .opened _ => true
    | _ => false)

/-- Step 1 and step 5 of R178 for the group records: pending commits dropped, open lists emptied, every group EMPTY; the
last commit cause and the done flag kept (R107). -/
def State.emptyGroups (s : State) : State :=
  { s with groups := Vector.ofFn (fun g => (s.groups.get g).emptied) }

/-- Step 2 of R178 for one slot, by its state (R20). -/
def State.quiesceSlot (s : State) (n : SlotNo) : State :=
  match s.slot n with
  | .free => s
  | .opened _ => s.setSlot n .free
  | .scheduled h _ => (s.withdraw n).complete n h .quiesced
  | .parked h => (s.unpark n h).complete n h .quiesced
  | .active h _ _ _ => (s.cut n h).complete n h .quiesced
  | .complete _ _ _ => s

/-- Step 3 of R178: every line's logical state INACTIVE, its polarity kept (R85). -/
def State.idleLines (s : State) : State :=
  { s with lines := Vector.ofFn (fun l => { s.lines.get l with isActive := false }) }

/-- The effect of a QUIESCE on the blocks, in the order of R178. -/
def State.quiesced (s : State) : State :=
  (slotNumbers.foldl State.quiesceSlot s.emptyGroups).idleLines.clearMeasurements

/-- The carrying out of a QUIESCE: slots completed in RESULT0, OPEN slots freed in RESULT1 (R178). -/
def State.replyQuiesce (s : State) : Reply :=
  .ok (s.quiesced, [byteOfNat s.placedTotal, byteOfNat s.openTotal])

/-- QUIESCE (R178, R190). -/
def execQuiesce (s : State) : Outcome := .next (if s.latched codeQuiesce then s.finish s.replyQuiesce else s)

end Sys2Proof.Machine
end

