-- ==== Sys2Proof/Machine/Reporting.lean ====
section
/-! DEFINITION. FLUSH and the two pops (Chapter 8). -/

namespace Sys2Proof.Machine

/-- The carrying out of a FLUSH: every record removed, the number of them and whether any was marked as result (R157). -/
def State.replyFlush (s : State) : Reply :=
  .ok (s.setLog [], [byteOfNat s.log.length, byteOfNat (s.log.any (·.overrun)).toNat])

/-- FLUSH (R157). -/
def execFlush (s : State) : Outcome := .next (if s.latched codeFlush then s.finish s.replyFlush else s)

/-- The byte a read puts on D0 to D7. -/
def State.drive (s : State) (b : Byte) : State := { s with busData := b }

/-- The removal of slot number `n` from the head of the completion queue: its record to the result buffer, then the slot
FREE (R13, R149). -/
def State.popDone (s : State) (n : SlotNo) (rest : List SlotNo) : State :=
  match s.slot n with
  | .complete h status time =>
    ({ s with doneQueue := rest }.writeResult (completionRecord n h status time)).setSlot n .free
  | _ => { s with doneQueue := rest }

/-- A pop: nothing happens and the read returns 0x00 while /RESET is asserted (R168). -/
def State.pop (s popped : State) : State :=
  match s.resetPin with
  | .asserted => s.drive Config.readInReset
  | .released => popped

/-- DONEPOP (R149). -/
def execDonepop (s : State) : Outcome :=
  .next (s.pop (if s.cu.busy then s.drive Config.popBusy
    else match s.doneQueue with
      | [] => s.drive Config.popEmpty
      | n :: rest => (s.popDone n rest).drive (byteOfNat n.val)))

/-- LOGPOP (R155). -/
def execLogpop (s : State) : Outcome :=
  .next (s.pop (if s.cu.busy then s.drive Config.popBusy
    else match s.log with
      | [] => s.drive Config.popEmpty
      | c :: rest => ((s.setLog rest).writeResult (captureRecord c)).drive c.source.byte))

end Sys2Proof.Machine
end

