-- ==== Sys2Proof/Machine/Slots.lean ====
section
/-! DEFINITION. POST and CANCEL (Chapter 1). -/

namespace Sys2Proof.Machine

/-! ### POST -/

/-- The group of a POST is PENDING (R8, check 6). -/
def State.groupIsPending (s : State) (g : Option GroupNo) : Bool :=
  match g with
  | none => false
  | some g => match (s.group g).state with
    | .pending _ _ => true
    | _ => false

/-- The checks of a POST, in order: the first that fails names the result; a POST that passes them has an action and
the lowest FREE slot (R7, R8). -/
def State.checkPost (s : State) : Except ResultCode (Action × SlotNo) :=
  let p := s.postRequest
  match Kind.ofCode p.kindCode with
  | none => .error .badKind
  | some kind =>
    match TimingMode.ofCode p.modeCode with
    | none => .error .badMode
    | some mode =>
      if p.rearm = true ∧ mode ≠ .trig then .error .badMode
      else if kind ≠ .note ∧ lineOf p.lineNumber = none then .error .badLine
      else if p.badTime kind mode = true then .error .badTime
      else match s.firstFree with
        | none => .error .noSlot
        | some n =>
          if s.groupIsPending p.group = true then .error .groupState
          else .ok (p.action kind mode, n)

/-- What a freshly posted slot holds: statistics and supersede-pending cleared, remaining loaded with count (R7). -/
def Action.posted (a : Action) : Held where
  action := a
  remaining := a.count
  fired := 0
  missed := 0
  worstLateness := 0
  ackLatency := 0
  supersedePending := false

/-- The slot joins the tail of its group's open list, and an EMPTY group becomes FILLING (R9). -/
def State.openInto (s : State) (n : SlotNo) (h : Held) (g : GroupNo) : State :=
  let opened := s.setSlot n (.opened h)
  let group := opened.group g
  opened.setGroup g
    { group with
      openList := group.openList ++ [n]
      state := match group.state with
        | .empty => .filling
        | other => other }

/-- An accepted POST: OPEN in its group, or placed at once when its group is 0 (R9, R11). -/
def State.takeSlot (s : State) (a : Action) (n : SlotNo) : State :=
  match a.group with
  | some g => s.openInto n a.posted g
  | none => s.place n a.posted

/-- The carrying out of a POST: the slot number in RESULT0 (R7, R180). -/
def State.replyPost (s : State) : Reply :=
  match s.checkPost with
  | .error code => .error code
  | .ok (a, n) => .ok (s.takeSlot a n, [byteOfNat n.val])

/-- POST (R7 to R11). -/
def execPost (s : State) : Outcome := .next (if s.latched codePost then s.finish s.replyPost else s)

/-! ### CANCEL -/

/-- A slot leaves its group's open list; a FILLING group whose list becomes empty becomes EMPTY (R15). -/
def Group.dropMember (group : Group) (n : SlotNo) : Group :=
  let rest := group.openList.filter (· != n)
  { group with
    openList := rest
    state := match group.state with
      | .filling => if rest.isEmpty then .empty else .filling
      | other => other }

/-- An OPEN slot freed by a CANCEL (R15). -/
def State.cancelOpen (s : State) (n : SlotNo) (h : Held) : State :=
  match h.action.group with
  | none => s.setSlot n .free
  | some g => (s.setSlot n .free).setGroup g ((s.group g).dropMember n)

/-- The effect of a CANCEL on a slot, by the state it finds, or `none` for a FREE or COMPLETE slot (R14 to R17). Commits
pending on a slot that completes execute within the CANCEL (R12, R100). -/
def State.cancelSlot (s : State) (n : SlotNo) : Option State :=
  match s.slot n with
  | .free => none
  | .opened h => some (s.cancelOpen n h)
  | .scheduled h _ => some ((s.withdraw n).complete n h .cancelled).runEndedCommits
  | .parked h => some ((s.unpark n h).complete n h .cancelled).runEndedCommits
  | .active h _ _ _ => some ((s.cut n h).complete n h .cancelled).runEndedCommits
  | .complete _ _ _ => none

/-- The carrying out of a CANCEL: the state found in RESULT0 (R14, R181). -/
def State.replyCancel (s : State) : Reply :=
  match slotOf (s.param 0) with
  | none => .error .badSlot
  | some n =>
    match s.cancelSlot n with
    | none => .error .notLive
    | some after => .ok (after, [byteOfNat (s.slot n).code])

/-- CANCEL (R14 to R17). -/
def execCancel (s : State) : Outcome := .next (if s.latched codeCancel then s.finish s.replyCancel else s)

end Sys2Proof.Machine
end

