-- ==== Sys2Proof/Machine/Time.lean ====
section
/-! DEFINITION. The timebase (Chapter 2): the TIMEBASE command's four operations, the counting of source edges and the
advance. -/

namespace Sys2Proof.Machine

/-! ### TIMEBASE -/

/-- The operations of TIMEBASE (R29, R181). -/
def opStart : Nat := 0
def opStop : Nat := 1
def opLoad : Nat := 2
def opSource : Nat := 3

/-- The result of the first check of R29 that fails, if one does. -/
def State.timebaseRefusal (s : State) : Option ResultCode :=
  let op := (s.param 0).toNat
  if opSource < op then some .badCfg
  else if op = opSource ∧ TimeSource.ofCode (s.param 5) = none then some .badCfg
  else if (op = opStart ∧ s.tb.state = .running) ∨ (op = opStop ∧ s.tb.state = .stopped)
      ∨ ((op = opLoad ∨ op = opSource) ∧ s.tb.state = .running) then some .tbState
  else if op = opLoad ∧ s.calendar ≠ [] then some .calNonEmpty
  else none

/-- The carrying out of a TIMEBASE: refused, or its operation with the value and the state after it as result (R29). -/
def State.replyTimebase (s : State) (operate : State → State) : Reply :=
  match s.timebaseRefusal with
  | some code => .error code
  | none =>
    let after := operate s
    .ok (after, bytesOfTick after.now ++ [byteOfNat after.tb.state.code])

/-- START: RUNNING, with the prescale count cleared (R30). -/
def State.startTime (s : State) : State :=
  s.setTimebase { s.tb with state := .running, prescaleCount := 0, advanceDue := false }

/-- STOP: STOPPED at the value read, with every channel's measurement state cleared (R31). An advance not yet taken is
not made (R24, R28; log 4). -/
def State.stopTime (s : State) : State :=
  (s.setTimebase { s.tb with state := .stopped, advanceDue := false }).clearMeasurements

/-- LOAD: the value set, with every channel's measurement state cleared (R32). -/
def State.loadTime (s : State) (value : Tick) : State :=
  (s.setTimebase { s.tb with value := value }).clearMeasurements

/-- SOURCE: source and prescale replaced (R33). -/
def State.sourceTime (s : State) (source : TimeSource) (prescale : Nat) : State :=
  s.setTimebase { s.tb with source := source, prescale := prescale }

/-- The LOAD value, PARAM1 to PARAM4 (R181). -/
def State.loadValue (s : State) : Tick := word (s.param 1) (s.param 2) (s.param 3) (s.param 4)

/-- The source that PARAM5 names and the prescale that PARAM6 names, which holds prescale - 1 (R29, R181). -/
def State.applySource (s : State) : State :=
  match TimeSource.ofCode (s.param 5) with
  | none => s
  | some source => s.sourceTime source ((s.param 6).toNat + 1)

/-- TIMEBASE START (R29, R30). -/
def execTimebaseStart (s : State) : Outcome :=
  .next (if s.latchedAs codeTimebase opStart opSource then s.finish (s.replyTimebase State.startTime) else s)

/-- TIMEBASE STOP (R29, R31). -/
def execTimebaseStop (s : State) : Outcome :=
  .next (if s.latchedAs codeTimebase opStop opSource then s.finish (s.replyTimebase State.stopTime) else s)

/-- TIMEBASE LOAD (R29, R32). -/
def execTimebaseLoad (s : State) : Outcome :=
  .next (if s.latchedAs codeTimebase opLoad opSource then
    s.finish (s.replyTimebase (fun t => t.loadTime s.loadValue)) else s)

/-- TIMEBASE SOURCE (R29, R33). -/
def execTimebaseSource (s : State) : Outcome :=
  .next (if s.latchedAs codeTimebase opSource opSource then s.finish (s.replyTimebase State.applySource) else s)

/-! ### Counting ticks (Section 2.2) -/

/-- The entry as the calendar keeps it over an advance: one at distance -2^31 is held there, a further tick behind (R52). -/
def Entry.overAdvance (now : Tick) (e : Entry) : Entry :=
  if e.distance now = Config.lowestDistance then { e with pastFloor := e.pastFloor + 1 } else e

/-- The value advances by one tick, modulo 2^32 (R22, R52). -/
def State.advanceTime (s : State) : State :=
  (s.setTimebase { s.tb with value := s.tb.value + 1, advanceDue := false }).setCalendar
    (s.calendar.map (Entry.overAdvance s.now))

/-- The input pin that supplies the edges of a source (R22). -/
def TimeSource.pin : TimeSource → SourcePin
  | .internal => .clk
  | .external => .tcnt

/-- A counted source edge: the count goes up by one, and when it reaches the prescale it returns to 0 and an advance
is due (R22). -/
def Timebase.countEdge (t : Timebase) : Timebase :=
  if t.prescaleCount + 1 = t.prescale then { t with prescaleCount := 0, advanceDue := true }
  else { t with prescaleCount := t.prescaleCount + 1 }

/-- An advance that is due is carried out; otherwise nothing happens (R23; log 4). -/
def State.takeDueAdvance (s : State) : State := if s.tb.advanceDue then s.advanceTime else s

/-- SOURCE_EDGE: counted while RUNNING and only on the selected pin; an advance still due comes before it (R22; log 4). -/
def execSourceEdge (pin : SourcePin) (s : State) : Outcome :=
  .next (if s.running ∧ s.tb.source.pin = pin then
    s.takeDueAdvance.setTimebase s.takeDueAdvance.tb.countEdge else s)

/-- ADVANCE: the value advances when the prescale count has reached the prescale (R22, R23). -/
def execAdvance (s : State) : Outcome := .next (if s.running then s.takeDueAdvance else s)

end Sys2Proof.Machine
end

