-- ==== Sys2Proof/Machine/Dispatch.lean ====
section
/-! DEFINITION. The dispatch: one arm per command. -/

namespace Sys2Proof.Machine

def exec (i : Instr) (s : State) : Host.Outcome State Fault Refusal :=
  match i with
  | .taking code => Sys2Proof.Machine.execTaking code s
  | .post => Sys2Proof.Machine.execPost s
  | .cancel => Sys2Proof.Machine.execCancel s
  | .commit => Sys2Proof.Machine.execCommit s
  | .discard => Sys2Proof.Machine.execDiscard s
  | .channel => Sys2Proof.Machine.execChannel s
  | .line => Sys2Proof.Machine.execLine s
  | .force => Sys2Proof.Machine.execForce s
  | .timebaseStart => Sys2Proof.Machine.execTimebaseStart s
  | .timebaseStop => Sys2Proof.Machine.execTimebaseStop s
  | .timebaseLoad => Sys2Proof.Machine.execTimebaseLoad s
  | .timebaseSource => Sys2Proof.Machine.execTimebaseSource s
  | .lateness => Sys2Proof.Machine.execLateness s
  | .flush => Sys2Proof.Machine.execFlush s
  | .quiesce => Sys2Proof.Machine.execQuiesce s
  | .inspectSlot => Sys2Proof.Machine.execInspectSlot s
  | .inspectGroup => Sys2Proof.Machine.execInspectGroup s
  | .inspectChannel => Sys2Proof.Machine.execInspectChannel s
  | .inspectLines => Sys2Proof.Machine.execInspectLines s
  | .inspectTime => Sys2Proof.Machine.execInspectTime s
  | .badcmd => Sys2Proof.Machine.execBadcmd s
  | .donepop => Sys2Proof.Machine.execDonepop s
  | .logpop => Sys2Proof.Machine.execLogpop s
  | .ackcause value => Sys2Proof.Machine.execAckcause value s
  | .causeen value => Sys2Proof.Machine.execCauseen value s
  | .logmark value => Sys2Proof.Machine.execLogmark value s
  | .groupdone value => Sys2Proof.Machine.execGroupdone value s
  | .registerWrite offset value => Sys2Proof.Machine.execRegisterWrite offset value s
  | .hardwareReset => Sys2Proof.Machine.execHardwareReset s
  | .sourceEdge pin => Sys2Proof.Machine.execSourceEdge pin s
  | .advance => Sys2Proof.Machine.execAdvance s
  | .edge ch dir => Sys2Proof.Machine.execEdge ch dir s
  | .watchExpiry ch => Sys2Proof.Machine.execWatchExpiry ch s
  | .referenceExpiry ch => Sys2Proof.Machine.execReferenceExpiry ch s
  | .leadRelease => Sys2Proof.Machine.execLeadRelease s
  | .endRelease => Sys2Proof.Machine.execEndRelease s

end Sys2Proof.Machine
end

