-- ==== Sys2Proof/Safety.lean ====
section
/-! DEFINITION. What a safe run is, in the terms the statements use: how an execution ends for the host, and the laws that
the manual's prose gives for the whole part. No event stops the part, so a run is safe when it keeps these laws. -/

namespace Sys2Proof.Machine

/-! ### How an execution ends (R173 to R175) -/

/-- `s` at the end of an execution that ended accepted with the given result bytes: result OK, busy clear, CMD set, the
result buffer holding the bytes and 0x00 in every other position (R173, R175). -/
def State.accepted (s : State) (bytes : List Byte) : State :=
  { s with
    cu := { s.cu with
      resultCode := .ok, busy := false, result := Vector.ofFn (fun k => bytes.getD k.val 0) }
    cmdCause := true }

/-- `s` at the end of an execution that ended refused: the result code written, busy clear, CMD set, and nothing else of
the part changed, no byte of the result buffer either (R174). -/
def State.refused (s : State) (code : ResultCode) : State :=
  { s with cu := { s.cu with resultCode := code, busy := false }, cmdCause := true }

/-- The rows that are executions of a taken command (R173). -/
def executionRows : List Instr :=
  [.post, .cancel, .commit, .discard, .channel, .line, .force, .timebaseStart, .timebaseStop, .timebaseLoad,
    .timebaseSource, .lateness, .flush, .quiesce, .inspectSlot, .inspectGroup, .inspectChannel, .inspectLines,
    .inspectTime, .badcmd]

/-! ### The slot pool and its collections -/

/-- The slot is OPEN in group `g`. -/
def Slot.isOpenIn (g : GroupNo) : Slot → Bool
  | .opened h => h.action.group == some g
  | _ => false

/-- The slot is OPEN. -/
def Slot.isOpened : Slot → Bool
  | .opened _ => true
  | _ => false

/-- The slot is PARKED with channel field `c`. -/
def Slot.isParkedOn (c : ChanNo) : Slot → Bool
  | .parked h => h.action.channel == some c
  | _ => false

/-- The slot is COMPLETE. -/
def Slot.isComplete : Slot → Bool
  | .complete _ _ _ => true
  | _ => false

/-- The slot is ACTIVE and names line `l`. -/
def Slot.isActiveOn (l : LineNo) : Slot → Bool
  | .active h _ _ _ => h.action.line == some l
  | _ => false

/-- The slot is an ACTIVE STROBE that names channel `c`. -/
def Slot.isStrobeOn (c : ChanNo) : Slot → Bool
  | .active h _ _ _ => h.action.kind == .strobe && h.action.channel == some c
  | _ => false

/-- The calendar entries that a slot's state gives it, as phase and due time: a LEAD entry at its due while SCHEDULED, an
END entry at its lead time plus its width while ACTIVE (R1, R36). -/
def Slot.entries : Slot → List (Phase × Tick)
  | .scheduled _ due => [(.lead, due)]
  | .active h _ leadTime _ => [(.trailing, leadTime + (h.action.width.getD 0).zeroExtend 32)]
  | _ => []

/-- The fields of an action are present as R2 and R3 give and their values are in the ranges and relations of R3. -/
def Action.wellFormed (a : Action) : Bool :=
  (a.line.isSome == (a.kind != .note))
    && (a.channel.isSome == (a.kind == .strobe || a.mode == .trig))
    && (a.width.isSome == a.kind.hasWidth)
    && (a.width.getD 1 != 0)
    && (!a.rearm || a.mode == .trig)
    && (a.mode == .abs || decide (a.timeValue.toNat < 2 ^ 31))
    && (a.count == 1 || a.period != 0)
    && (a.count == 1 || !a.kind.hasWidth || decide ((a.width.getD 0).toNat < a.period.toNat))

/-- remaining never exceeds a count that is not 0, and is 0 there only while the slot is ACTIVE or COMPLETE; with count
0 it is 0 (R4). -/
def Slot.remainingFits : Slot → Bool
  | .free => true
  | .active h _ _ _ => decide (h.remaining.toNat ≤ h.action.count.toNat)
  | .complete h _ _ => decide (h.remaining.toNat ≤ h.action.count.toNat)
  | .opened h => decide (h.remaining.toNat ≤ h.action.count.toNat) && (h.action.count == 0 || h.remaining != 0)
  | .scheduled h _ => decide (h.remaining.toNat ≤ h.action.count.toNat) && (h.action.count == 0 || h.remaining != 0)
  | .parked h => decide (h.remaining.toNat ≤ h.action.count.toNat) && (h.action.count == 0 || h.remaining != 0)

/-- The lead due of an ACTIVE slot that lies beyond -2^31 behind its lead time lies `leadPast` ticks beyond it (log 10). -/
def Slot.leadPastFits : Slot → Bool
  | .active _ leadDue leadTime leadPast =>
    leadPast == 0 || leadTime - leadDue == BitVec.ofNat 32 (2147483648 + leadPast)
  | _ => true

/-! ### What a commit does to the slots (R94 to R98) -/

/-- The slot that placement makes of an OPEN slot that holds `h`, with `now` as time of placement (R10, R97). -/
def Held.placedAt (now : Tick) (h : Held) : Slot :=
  match h.action.mode with
  | .abs => .scheduled { h with remaining := h.action.count } h.action.timeValue
  | .rel => .scheduled { h with remaining := h.action.count } (now + h.action.timeValue)
  | .trig => .parked { h with remaining := h.action.count }

/-- The next continuation of what the slot holds completes it: it is superseded, or its bounded run has no attempt left and
does not re-park (R70). -/
def Held.completesNext (h : Held) : Prop :=
  h.supersedePending = true ∨ (h.action.count ≠ 0 ∧ h.remaining = 0 ∧ h.action.rearm = false)

/-- What the commit of group `g` within an event from `s` to `t` has done: its record (R98), the placement of its members at
the event's now (R97) and, with REPLACE, the retiring of its placed generation (R95). `own` is the slot that the event itself
acts on before the commit, if it acts on one; with REPLACE that slot too ends outside the placed generation, or ACTIVE and
marked. -/
structure State.CommitDone (s t : State) (g : GroupNo) (replace : Bool) (cause : CommitCause) (own : Option SlotNo) :
    Prop where
  record : t.group g = { state := .empty, openList := [], lastCause := cause, done := true }
  placed : ∀ (n : SlotNo) (h : Held), s.slot n = .opened h → h.action.group = some g → t.slot n = h.placedAt s.now
  retiredScheduled : replace = true → ∀ (n : SlotNo) (h : Held) (due : Tick), own ≠ some n →
    s.slot n = .scheduled h due → h.action.group = some g → t.slot n = .complete h .superseded s.now
  retiredParked : replace = true → ∀ (n : SlotNo) (h : Held), own ≠ some n →
    s.slot n = .parked h → h.action.group = some g → t.slot n = .complete h .superseded s.now
  marked : replace = true → ∀ (n : SlotNo) (h : Held) (leadDue leadTime : Tick) (leadPast : Nat), own ≠ some n →
    s.slot n = .active h leadDue leadTime leadPast → h.action.group = some g →
    t.slot n = .active { h with supersedePending := true } leadDue leadTime leadPast
  ownRetired : replace = true → ∀ n : SlotNo, own = some n → (t.slot n).inPlacedGeneration g = true →
    ∃ (h : Held) (leadDue leadTime : Tick) (leadPast : Nat), t.slot n = .active h leadDue leadTime leadPast ∧ h.supersedePending = true
  kept : replace = false → ∀ n : SlotNo, own ≠ some n → (s.slot n).inPlacedGeneration g = true → t.slot n = s.slot n

/-! ### The laws -/

/-- Every slot that holds an action holds a well-formed one (R2, R3). -/
abbrev State.ActionsHold (s : State) : Prop :=
  ∀ n : SlotNo, ∀ h ∈ (s.slot n).held?, h.action.wellFormed = true

/-- R4's law on remaining, for every slot. -/
abbrev State.RemainingHolds (s : State) : Prop := ∀ n : SlotNo, (s.slot n).remainingFits = true

/-- The completion queue holds exactly the COMPLETE slots, each once (R147). -/
abbrev State.QueueHolds (s : State) : Prop :=
  s.doneQueue.Nodup ∧ ∀ n : SlotNo, n ∈ s.doneQueue ↔ (s.slot n).isComplete = true

/-- Each slot has exactly the calendar entries its state gives it (R1, R36, R44). -/
abbrev State.CalendarHolds (s : State) : Prop :=
  ∀ n : SlotNo,
    (s.calendar.filter (fun e => e.slot == n)).map (fun e => (e.phase, e.due)) = (s.slot n).entries

/-- The calendar is ordered by distance (R37). -/
abbrev State.CalendarOrdered (s : State) : Prop :=
  s.calendar.Pairwise (fun a b => a.distance s.now ≤ b.distance s.now)

/-- Where a due time lies beyond -2^31 behind the timebase, it lies as many ticks beyond it as the model keeps: the due time of
an entry behind now, and the lead due of an ACTIVE slot behind its lead time (R52; the model's own fields, log 10). -/
abbrev State.PastFloorsHold (s : State) : Prop :=
  (∀ e ∈ s.calendar, e.pastFloor ≠ 0 → s.now - e.due = BitVec.ofNat 32 (2147483648 + e.pastFloor)) ∧
  ∀ n : SlotNo, (s.slot n).leadPastFits = true

/-- Each group's open list holds exactly the slots OPEN in it, each once; every OPEN slot is in a group; an EMPTY group has
no members and a FILLING group has one or more (R1, R87, R88). -/
abbrev State.OpenListsHold (s : State) : Prop :=
  (∀ g : GroupNo, (s.group g).openList.Nodup ∧
    (∀ n : SlotNo, n ∈ (s.group g).openList ↔ (s.slot n).isOpenIn g = true) ∧
    ((s.group g).state = .empty → (s.group g).openList = []) ∧
    ((s.group g).state = .filling → (s.group g).openList ≠ [])) ∧
  ∀ n : SlotNo, (s.slot n).isOpened = true → ∃ g : GroupNo, (s.slot n).isOpenIn g = true

/-- Each channel's parked list holds exactly the PARKED slots that name it, each once (R1, R127). -/
abbrev State.ParkedListsHold (s : State) : Prop :=
  ∀ c : ChanNo, (s.channel c).parked.Nodup ∧
    ∀ n : SlotNo, n ∈ (s.channel c).parked ↔ (s.slot n).isParkedOn c = true

/-- A line is claimed exactly by the ACTIVE slot that names it, and a claimed line is ACTIVE (R59, R75). -/
abbrev State.ClaimsHold (s : State) : Prop :=
  ∀ l : LineNo, (∀ n : SlotNo, (s.line l).claim = some n ↔ (s.slot n).isActiveOn l = true) ∧
    ((s.line l).claim ≠ none → (s.line l).isActive = true)

/-- A channel's ack claim is held exactly by the ACTIVE STROBE that names it, and only in ACK mode (R134). -/
abbrev State.AckClaimsHold (s : State) : Prop :=
  ∀ c : ChanNo, (∀ n : SlotNo, (s.channel c).ackClaim = some n ↔ (s.slot n).isStrobeOn c = true) ∧
    ((s.channel c).ackClaim ≠ none → (s.channel c).mode = .ack)

/-- A group is PENDING only while its anchor is SCHEDULED, PARKED or ACTIVE (R87). -/
abbrev State.AnchorsLive (s : State) : Prop :=
  ∀ g : GroupNo,
    match (s.group g).state with
    | .pending anchor _ => (s.slot anchor).isLive = true
    | _ => True

/-- No commit waits for slot `n`: every PENDING group has another, live anchor (R87). -/
def State.NoCommitWaitsFor (s : State) (n : SlotNo) : Prop :=
  s.AnchorsLive ∧ ∀ (g : GroupNo) (anchor : SlotNo) (replace : Bool),
    (s.group g).state = .pending anchor replace → anchor ≠ n

/-- Measurement state stands only in PERIOD and WIDTH mode; a watch is set only with sense LONGER and a nonzero limit, at
the reference plus the limit; and a set violation mark means a reference without a watch (R114, R115, R121, R122). -/
abbrev State.MeasurementsHold (s : State) : Prop :=
  ∀ c : ChanNo,
    let ch := s.channel c
    (ch.reference ≠ none → ch.mode = .period ∨ ch.mode = .width) ∧
    (ch.watch ≠ none → ch.sense = .longer ∧ ch.limit ≠ 0 ∧ ch.watch = ch.reference.map (· + ch.limit)) ∧
    (ch.violationMark = true → ch.reference ≠ none ∧ ch.watch = none)

/-- The capture log holds at most 32 records and the log threshold is at most 32 (R151, R158). -/
abbrev State.ReportingInBounds (s : State) : Prop :=
  s.log.length ≤ 32 ∧ s.logThreshold ≤ 32

/-- The prescale is 1 to 256; while RUNNING the prescale count is below it; while STOPPED no advance is due (R21, R24;
the last is the model's own field, log 4). -/
abbrev State.TimebaseInRange (s : State) : Prop :=
  1 ≤ s.tb.prescale ∧ s.tb.prescale ≤ 256 ∧
  (s.tb.state = .running → s.tb.prescaleCount < s.tb.prescale) ∧
  (s.tb.state = .stopped → s.tb.advanceDue = false)

/-- The CMD cause is clear for the whole time the command unit is busy (R161). -/
abbrev State.CmdClearWhileBusy (s : State) : Prop := s.cu.busy = true → s.cmdCause = false

/-- While /RESET is asserted every block holds its reset values; the input pins follow the outside, and the byte of the last
pop and the queue are the model's own (R168, R188). -/
abbrev State.ResetHolds (s : State) : Prop :=
  s.resetPin = .asserted →
    s = { State.reset with resetPin := .asserted, pins := s.pins, busData := s.busData, pending := s.pending }

/-- All the laws together. -/
structure State.Lawful (s : State) : Prop where
  actions : s.ActionsHold
  remaining : s.RemainingHolds
  queue : s.QueueHolds
  calendar : s.CalendarHolds
  ordered : s.CalendarOrdered
  pastFloors : s.PastFloorsHold
  openLists : s.OpenListsHold
  parkedLists : s.ParkedListsHold
  claims : s.ClaimsHold
  ackClaims : s.AckClaimsHold
  anchors : s.AnchorsLive
  measurements : s.MeasurementsHold
  reporting : s.ReportingInBounds
  timebase : s.TimebaseInRange
  command : s.CmdClearWhileBusy
  resetHeld : s.ResetHolds

end Sys2Proof.Machine
end

