-- ==== Sys2Proof/Certificates/Slice0/Obligations.lean ====
section
/-! DEFINITION. The statements about the machine that the provers settle. Each says in its docstring which rules of
spec/ it formalises; a clause that rests on a choice of the model names the log entry. -/

open Sys2Proof Sys2Proof.Machine

/-! ### The queue, the codes and the window -/

/-- A step takes the command at the front of the queue and runs it on the queue's rest; with an empty queue the part
idles. The queue is the model's own (log 1). -/
def Obligations.StepRunsFrontOfQueue : Prop :=
  (∀ (c : Instr) (rest : List Instr) (s : State),
    step { s with pending := c :: rest } = exec c { s with pending := rest }) ∧
  (∀ s : State, s.pending = [] → step s = .next s)

/-- R179: the codes of the named values, where the part writes them and where it reads them. -/
def Obligations.NamedValueCodes : Prop :=
  ([Kind.set, .clear, .toggle, .pulse, .strobe, .note].map Kind.code = [1, 2, 3, 4, 5, 6] ∧
    (∀ (b : Byte) (k : Kind), Kind.ofCode b = some k ↔ b.toNat = k.code)) ∧
  ([TimingMode.abs, .rel, .trig].map TimingMode.code = [0, 1, 2] ∧
    (∀ (b : BitVec 2) (m : TimingMode), TimingMode.ofCode b = some m ↔ b.toNat = m.code)) ∧
  (∀ (h : Held) (a b : Tick) (past : Nat) (st : Status),
    [Slot.free, .opened h, .scheduled h a, .parked h, .active h a b past, .complete h st a].map Slot.code
      = [0, 1, 2, 3, 4, 5]) ∧
  [Status.done, .timeout, .cancelled, .superseded, .collided, .ackBusy, .ackOff, .expired, .broken, .quiesced].map
    Status.code = [1, 2, 3, 4, 5, 6, 7, 8, 9, 10] ∧
  ([ChannelMode.off, .stamp, .period, .width, .ack].map ChannelMode.code = [0, 1, 2, 3, 4] ∧
    (∀ (b : Byte) (m : ChannelMode), ChannelMode.ofCode b = some m ↔ b.toNat = m.code)) ∧
  ([EdgeSetting.rise, .fall, .both].map EdgeSetting.code = [0, 1, 2] ∧
    (∀ (b : Byte) (e : EdgeSetting), EdgeSetting.ofCode b = some e ↔ b.toNat = e.code)) ∧
  ([Sense.shorter, .longer].map Sense.code = [0, 1] ∧
    (∀ (b : Byte) (x : Sense), Sense.ofCode b = some x ↔ b.toNat = x.code)) ∧
  ([LogPolicy.none, .violations, .all].map LogPolicy.code = [0, 1, 2] ∧
    (∀ (b : Byte) (p : LogPolicy), LogPolicy.ofCode b = some p ↔ b.toNat = p.code)) ∧
  ([LaunchSource.edge, .violation].map LaunchSource.code = [0, 1] ∧
    (∀ (b : Byte) (l : LaunchSource), LaunchSource.ofCode b = some l ↔ b.toNat = l.code)) ∧
  (∀ (n : SlotNo) (r : Bool), [GroupState.empty, .filling, .pending n r].map GroupState.code = [0, 1, 2]) ∧
  [CommitCause.none, .now, .anchorFired, .anchorEnded].map CommitCause.code = [0, 1, 2, 3] ∧
  [CaptureKind.stamp, .interval, .watch, .ack, .stray, .fired, .miss].map CaptureKind.code = [1, 2, 3, 4, 5, 6, 7] ∧
  [TimeState.stopped, .running].map TimeState.code = [0, 1]

/-- What each location of the window reads as (09 sections 9.1, 9.3 and 9.6): CMDSTAT with busy, overrun and the result
code; CAUSE; CAUSEEN; LOGMARK; the two lengths; GROUPDONE; 0x00 in the unused places; and the result buffer. While /RESET is
asserted every location reads as 0x00. -/
def Obligations.WindowReads : Prop :=
  (∀ (s : State) (o : BitVec 5), s.resetPin = .asserted → s.readWindow o = 0) ∧
  ∀ s : State, s.resetPin = .released →
    ((s.readWindow 0x00).getLsbD 7 = s.cu.busy ∧ (s.readWindow 0x00).getLsbD 6 = s.cu.overrun ∧
      (s.readWindow 0x00).toNat % 64 = s.cu.resultCode.code) ∧
    [ResultCode.ok, .badCmd, .badKind, .badMode, .badLine, .badChan, .badGroup, .badTime, .badSlot, .badCfg, .noSlot,
      .notLive, .groupState, .emptyGroup, .lineBusy, .chanBusy, .tbState, .calNonEmpty].map ResultCode.code
      = [0, 1, 2, 3, 4, 5, 6, 7, 8, 9, 10, 11, 12, 13, 15, 16, 17, 18] ∧
    s.readWindow 0x01 = s.causeBits.zeroExtend 8 ∧
    s.readWindow 0x02 = s.causeEnables.zeroExtend 8 ∧
    s.readWindow 0x03 = BitVec.ofNat 8 s.logThreshold ∧
    s.readWindow 0x04 = BitVec.ofNat 8 s.log.length ∧
    s.readWindow 0x05 = BitVec.ofNat 8 s.doneQueue.length ∧
    ((s.readWindow 0x08).getLsbD 0 = false ∧
      ∀ g : GroupNo, (s.readWindow 0x08).getLsbD (g.val + 1) = (s.group g).done) ∧
    (∀ k : Nat, 9 ≤ k → k ≤ 15 → s.readWindow (BitVec.ofNat 5 k) = 0) ∧
    (∀ k : Fin 16, s.readWindow (BitVec.ofNat 5 (16 + k.val)) = s.cu.result.get k)

/-! ### Reset -/

/-- What a hardware reset leaves of every block (01 section 1.9, 02 section 2.8, 03 section 3.8, 04 section 4.11, 05
section 5.11, 06 section 6.10, 08 section 8.7, 09 section 9.8), and accesses while /RESET is asserted (09 section 9.1): they
have no effect and a pop reads 0x00. That the event ends with the release of /RESET and leaves the input pins and the queue as
they were, and that the byte read stands in a field which a reset clears, is the model's choice (logs 1, 5, 8, 9). -/
def Obligations.HardwareResetState : Prop :=
  (∀ s : State,
    exec .hardwareReset s = .next
      { tb := { value := 0, state := .stopped, source := .internal, prescale := 1, prescaleCount := 0,
                advanceDue := false }
        slots := Vector.replicate 64 .free
        calendar := []
        latenessLimit := 0
        lines := Vector.replicate 16 { isActive := false, polarity := .activeHigh, claim := none }
        channels := Vector.replicate 8
          { mode := .off, edge := .rise, limit := 0, sense := .shorter, policy := .none, launchSource := .edge,
            reference := none, watch := none, violationMark := false, ackClaim := none, parked := [] }
        pins := s.pins
        resetPin := .released
        groups := Vector.replicate 7 { state := .empty, openList := [], lastCause := .none, done := false }
        doneQueue := []
        log := []
        logThreshold := 0
        causeEnables := 0
        cmdCause := false
        cu := { params := Vector.replicate 16 0, latch := Vector.replicate 16 0, code := 0,
                result := Vector.replicate 16 0, busy := false, overrun := false, resultCode := .ok }
        busData := 0
        pending := s.pending }) ∧
  (∀ s : State, s.resetPin = .asserted →
    (∀ v : Byte, exec (.taking v) s = .next s ∧ exec (.ackcause v) s = .next s ∧ exec (.causeen v) s = .next s ∧
      exec (.logmark v) s = .next s ∧ exec (.groupdone v) s = .next s ∧
      ∀ o : BitVec 5, exec (.registerWrite o v) s = .next s) ∧
    exec .donepop s = .next { s with busData := 0 } ∧ exec .logpop s = .next { s with busData := 0 })

/-- The state after reset keeps every law of the part: collections, claims, anchors, measurement state and ranges. -/
def Obligations.ResetIsLawful : Prop := State.reset.Lawful

/-! ### Bus accesses -/

/-- R171: a write to CMD while the command unit is not busy takes a command, whatever the byte; from then on both pops
return 0xFE. R172: while the unit is busy the write sets overrun and changes nothing else. This and the next statements on
accesses are about a released /RESET; HardwareResetState gives the other case. -/
def Obligations.TakingLatchesTheCommand : Prop :=
  ∀ (code : Byte) (s : State),
    s.resetPin = .released →
    (s.cu.busy = false →
      ∃ t : State,
        exec (.taking code) s = .next t ∧
        t = { s with
              cu := { s.cu with code := code, latch := s.cu.params, busy := true, overrun := false }
              cmdCause := false } ∧
        t.readWindow 0x06 = 0xFE#8 ∧ t.readWindow 0x07 = 0xFE#8) ∧
    (s.cu.busy = true → exec (.taking code) s = .next { s with cu := { s.cu with overrun := true } })

/-- R169: a write to offset 0x10 + n stores its byte in PARAMn and changes nothing else, busy or not; reads of the same
offsets return the result buffer; a taking copies the whole buffer to the latch and leaves it; a hardware reset sets
all sixteen bytes to 0x00; and no other command changes the buffer. -/
def Obligations.ParameterBufferKeepsItsBytes : Prop :=
  (∀ (k : Fin 16) (v : Byte) (s : State), s.resetPin = .released →
    exec (.registerWrite (BitVec.ofNat 5 (16 + k.val)) v) s
      = .next { s with cu := { s.cu with params := s.cu.params.set k.val v k.isLt } }) ∧
  (∀ (k : Fin 16) (s : State), s.resetPin = .released →
    s.readWindow (BitVec.ofNat 5 (16 + k.val)) = s.cu.result.get k) ∧
  (∀ (code : Byte) (s t : State), s.resetPin = .released → s.cu.busy = false → exec (.taking code) s = .next t →
    t.cu.latch = s.cu.params ∧ t.cu.params = s.cu.params) ∧
  (∀ s t : State, exec .hardwareReset s = .next t → ∀ k : Fin 16, t.cu.params.get k = 0) ∧
  (∀ (c : Instr) (s t : State), c ≠ .hardwareReset → (∀ o v, c = .registerWrite o v → o.toNat < 16) →
    exec c s = .next t → t.cu.params = s.cu.params)

/-- The writes that are not parameter bytes (09 section 9.1, 05 section 5.7): an ignored location changes nothing; a
GROUPDONE write clears the done flag of each group whose bit is 1, busy or not; and a write that names a location with a
row of its own has that row's effect (the last is the model's reading, log 17). -/
def Obligations.OtherWindowWrites : Prop :=
  ∀ (v : Byte) (s : State), s.resetPin = .released →
    (∀ o : BitVec 5, 4 ≤ o.toNat → o.toNat < 16 → o ≠ 0x08#5 → exec (.registerWrite o v) s = .next s) ∧
    (∃ t : State, exec (.groupdone v) s = .next t ∧ t = { s with groups := t.groups } ∧
      ∀ g : GroupNo, t.group g
        = { s.group g with done := if v.getLsbD (g.val + 1) then false else (s.group g).done }) ∧
    exec (.registerWrite 0x00#5 v) s = exec (.taking v) s ∧
    exec (.registerWrite 0x01#5 v) s = exec (.ackcause v) s ∧
    exec (.registerWrite 0x02#5 v) s = exec (.causeen v) s ∧
    exec (.registerWrite 0x03#5 v) s = exec (.logmark v) s ∧
    exec (.registerWrite 0x08#5 v) s = exec (.groupdone v) s

/-- R162: a write to ACKCAUSE clears CMD when it holds a 1 in CMD's place and leaves it when it holds a 0; the places of
the level causes have no effect; the location reads as CAUSE; and against the end of an execution, CMD is set when the
write is taken first and clear when the end is taken first. -/
def Obligations.AckcauseClearsOnlyCmd : Prop :=
  ∀ (v : Byte) (s : State), s.resetPin = .released →
    exec (.ackcause v) s = .next { s with cmdCause := if v.getLsbD 4 then false else s.cmdCause } ∧
    s.readWindow 0x01 = s.causeBits.zeroExtend 8 ∧ s.causeBits.getLsbD 4 = s.cmdCause ∧
    (∀ c ∈ executionRows, ∀ t u : State, s.cu.busy = true → v.getLsbD 4 = true → exec (.ackcause v) s = .next t →
      exec c t = .next u → u.cu.busy = false → u.cmdCause = true) ∧
    (∀ c ∈ executionRows, ∀ t u : State, s.cu.busy = true → v.getLsbD 4 = true → exec c s = .next t →
      t.cu.busy = false → exec (.ackcause v) t = .next u → u.cmdCause = false ∧ u.readWindow 0x00 = t.readWindow 0x00)

/-- R163: a write to CAUSEEN replaces all five enables, busy or not, and /IRQ follows within the access; a read returns
them, 0 in the places that name no cause; and no cause changes. -/
def Obligations.CauseenReplacesTheEnables : Prop :=
  ∀ (v : Byte) (s : State), s.resetPin = .released →
    ∃ t : State,
      exec (.causeen v) s = .next t ∧ t = { s with causeEnables := t.causeEnables } ∧
      (∀ k < 5, t.causeEnables.getLsbD k = v.getLsbD k) ∧
      (∀ k, (t.readWindow 0x02).getLsbD k = (decide (k < 5) && v.getLsbD k)) ∧
      t.causeBits = s.causeBits ∧
      (t.irqAsserted = true ↔ ∃ k < 5, s.causeBits.getLsbD k = true ∧ v.getLsbD k = true)

/-- R158: a write to LOGMARK stores the value, one above 32 as 32, busy or not, and changes nothing else; a read returns
the stored value; LOGMARK is set exactly when the threshold is not 0 and the log holds at least that many records. -/
def Obligations.LogmarkStoresTheThreshold : Prop :=
  ∀ (v : Byte) (s : State), s.resetPin = .released →
    ∃ t : State,
      exec (.logmark v) s = .next t ∧
      t = { s with logThreshold := if 32 < v.toNat then 32 else v.toNat } ∧
      (t.readWindow 0x03).toNat = (if 32 < v.toNat then 32 else v.toNat) ∧
      (t.causeBits.getLsbD 1 = true ↔ t.logThreshold ≠ 0 ∧ t.logThreshold ≤ s.log.length)

/-- /IRQ is asserted exactly when some cause and its enable are both set, and the level causes are the views of the state
they name (08 sections 8.4 and 8.5). -/
def Obligations.InterruptRequestLine : Prop :=
  ∀ s : State,
    s.irqAsserted = true ↔
      (s.doneQueue ≠ [] ∧ s.causeEnables.getLsbD 0 = true) ∨
      ((s.logThreshold ≠ 0 ∧ s.logThreshold ≤ s.log.length) ∧ s.causeEnables.getLsbD 1 = true) ∨
      ((∃ c ∈ s.log, c.overrun = true) ∧ s.causeEnables.getLsbD 2 = true) ∨
      ((∃ g : GroupNo, (s.group g).done = true) ∧ s.causeEnables.getLsbD 3 = true) ∨
      (s.cmdCause = true ∧ s.causeEnables.getLsbD 4 = true)

/-- R149: a DONEPOP returns 0xFE and does nothing while the command unit is busy, 0xFF when the queue is empty, and
otherwise the slot number at the head, which is removed; the completion record goes to the result buffer and the slot is
FREE. DONE is clear exactly when the queue is then empty. The layout of the record is R183's; the byte returned stands in
the model's own field for D0 to D7 (log 8). -/
def Obligations.DonepopOutcomes : Prop :=
  ∀ s : State, s.resetPin = .released →
    (s.cu.busy = true → exec .donepop s = .next { s with busData := 0xFE#8 }) ∧
    (s.cu.busy = false → s.doneQueue = [] → exec .donepop s = .next { s with busData := 0xFF#8 }) ∧
    (∀ (n : SlotNo) (rest : List SlotNo) (h : Held) (status : Status) (time : Tick),
      s.cu.busy = false → s.doneQueue = n :: rest → s.slot n = .complete h status time →
      ∃ t : State,
        exec .donepop s = .next t ∧
        t = { s with
              doneQueue := rest
              slots := s.slots.set n.val .free n.isLt
              busData := BitVec.ofNat 8 n.val
              cu := { s.cu with result := #v[
                BitVec.ofNat 8 n.val, BitVec.ofNat 8 status.code, h.action.tag, BitVec.ofNat 8 h.action.kind.code,
                (match h.action.line, h.action.channel with
                  | some l, _ => BitVec.ofNat 8 l.val
                  | none, some c => BitVec.ofNat 8 c.val
                  | none, none => 0xFF#8),
                h.missed, h.fired.extractLsb' 0 8, h.fired.extractLsb' 8 8,
                time.extractLsb' 0 8, time.extractLsb' 8 8, time.extractLsb' 16 8, time.extractLsb' 24 8,
                h.worstLateness.extractLsb' 0 8, h.worstLateness.extractLsb' 8 8,
                h.ackLatency.extractLsb' 0 8, h.ackLatency.extractLsb' 8 8] } } ∧
        (t.causeBits.getLsbD 0 = false ↔ rest = []))

/-- R155: a LOGPOP returns 0xFE and does nothing while the command unit is busy, 0xFF when the log is empty, and otherwise
the source byte of the head record, which is removed and copied, with its overrun mark, over all sixteen result bytes;
LOGOVR stays set exactly while another stored record carries a mark, and LOGMARK is re-evaluated against the threshold.
The layout of the record is R184's; the byte returned stands in the model's own field for D0 to D7 (log 8). -/
def Obligations.LogpopOutcomes : Prop :=
  ∀ s : State, s.resetPin = .released →
    (s.cu.busy = true → exec .logpop s = .next { s with busData := 0xFE#8 }) ∧
    (s.cu.busy = false → s.log = [] → exec .logpop s = .next { s with busData := 0xFF#8 }) ∧
    (∀ (c : Capture) (rest : List Capture),
      s.cu.busy = false → s.log = c :: rest →
      ∃ t : State, ∃ source : Byte,
        exec .logpop s = .next t ∧
        source.toNat = (match c.source with
          | .action n => n.val
          | .channel ch => 128 + ch.val) ∧
        t = { s with
              log := rest
              busData := source
              cu := { s.cu with result := #v[
                source, BitVec.ofNat 8 c.kind.code,
                BitVec.ofNat 8 (c.edge.toNat + 2 * c.violation.toNat + 4 * c.interval.isSome.toNat
                  + 8 * c.overrun.toNat),
                c.tag, c.timestamp.extractLsb' 0 8, c.timestamp.extractLsb' 8 8, c.timestamp.extractLsb' 16 8,
                c.timestamp.extractLsb' 24 8,
                (c.interval.getD 0).extractLsb' 0 8, (c.interval.getD 0).extractLsb' 8 8,
                (c.interval.getD 0).extractLsb' 16 8, (c.interval.getD 0).extractLsb' 24 8,
                c.extra.extractLsb' 0 8, c.extra.extractLsb' 8 8, 0, 0] } } ∧
        (t.causeBits.getLsbD 2 = true ↔ ∃ d ∈ rest, d.overrun = true) ∧
        (t.causeBits.getLsbD 1 = true ↔ s.logThreshold ≠ 0 ∧ s.logThreshold ≤ rest.length))

/-! ### The executions: which one, and refusals -/

/-- A row of an execution acts only on the taken command that its code names, and a latched byte that is no command code
ends with BADCMD and changes nothing else (09 sections 9.2 and 9.3). That a row which names no waiting command leaves
the state unchanged is the model's choice (log 2). -/
def Obligations.ExecutionNeedsTheTakenCommand : Prop :=
  ∀ s : State,
    (s.cu.busy = false → ∀ c ∈ executionRows, exec c s = .next s) ∧
    (∀ p ∈ [(Instr.post, 1), (.cancel, 2), (.commit, 3), (.discard, 4), (.channel, 5), (.line, 6), (.force, 7),
        (.timebaseStart, 8), (.timebaseStop, 8), (.timebaseLoad, 8), (.timebaseSource, 8), (.lateness, 9), (.flush, 10),
        (.quiesce, 11), (.inspectSlot, 12), (.inspectGroup, 12), (.inspectChannel, 12), (.inspectLines, 12),
        (.inspectTime, 12)],
      s.cu.code.toNat ≠ p.2 → exec p.1 s = .next s) ∧
    (s.cu.busy = true → (s.cu.code.toNat = 0 ∨ 12 < s.cu.code.toNat) →
      exec .badcmd s = .next (s.refused .badCmd)) ∧
    (1 ≤ s.cu.code.toNat → s.cu.code.toNat ≤ 12 → exec .badcmd s = .next s)

/-- A command that ends with a result other than OK has written its result code, cleared busy and set CMD, and changed no
other state of the part (09 section 9.2, R174's last sentences); one that ends OK has set CMD and cleared busy too. -/
def Obligations.RefusedCommandChangesNothingElse : Prop :=
  ∀ c ∈ executionRows, ∀ s t : State,
    s.cu.busy = true → exec c s = .next t → t.cu.busy = false →
    t.cmdCause = true ∧ (t.cu.resultCode ≠ .ok → t = s.refused t.cu.resultCode)

/-! ### POST -/

/-- R8: the checks of a POST in their order, on the bytes of the latch as R180 lays them out; the first that fails names
the result, and a POST that passes all six ends OK. -/
def Obligations.PostResultCode : Prop :=
  ∀ s : State, s.cu.busy = true → s.cu.code = 0x01#8 →
    let kind := (s.param 0).toNat
    let mode := (s.param 1).toNat % 4
    let rearm := (s.param 1).getLsbD 7
    let line := (s.param 2).toNat
    let group := (s.param 3).toNat / 8 % 8
    let timeValue := (s.param 5).toNat + 256 * (s.param 6).toNat + 65536 * (s.param 7).toNat
      + 16777216 * (s.param 8).toNat
    let width := (s.param 9).toNat + 256 * (s.param 10).toNat
    let count := (s.param 11).toNat + 256 * (s.param 12).toNat
    let period := (s.param 13).toNat + 256 * (s.param 14).toNat + 65536 * (s.param 15).toNat
    let widthKind := kind = 4 ∨ kind = 5
    ∃ t : State, exec .post s = .next t ∧
      t.cu.resultCode =
        if kind = 0 ∨ 6 < kind then .badKind
        else if mode = 3 ∨ (rearm = true ∧ mode ≠ 2) then .badMode
        else if kind ≠ 6 ∧ 15 < line then .badLine
        else if (mode ≠ 0 ∧ 2 ^ 31 ≤ timeValue) ∨ (widthKind ∧ width = 0) ∨ (count ≠ 1 ∧ period = 0)
            ∨ (widthKind ∧ count ≠ 1 ∧ period ≤ width) then .badTime
        else if ∀ n : SlotNo, s.slot n ≠ .free then .noSlot
        else if ∃ (g : GroupNo) (anchor : SlotNo) (replace : Bool),
            group = g.val + 1 ∧ (s.group g).state = .pending anchor replace then .groupState
        else .ok

/-- A POST that passes its checks takes the lowest-numbered FREE slot, and its action's description and timing fields are
those of the latch, with the fields its kind and mode do not have absent (01 sections 1.2 and 1.4, 09 section 9.5). -/
def Obligations.PostTakesTheLowestFreeSlot : Prop :=
  ∀ (s : State) (a : Action) (n : SlotNo), s.checkPost = .ok (a, n) →
    (s.slot n = .free ∧ ∀ m : SlotNo, m < n → s.slot m ≠ .free) ∧
    (s.param 0).toNat = a.kind.code ∧ (s.param 1).toNat % 4 = a.mode.code ∧
    a.logOption = (s.param 1).getLsbD 6 ∧ a.rearm = (s.param 1).getLsbD 7 ∧
    (a.kind = .note → a.line = none) ∧
    (a.kind ≠ .note → a.line.map (·.val) = some (s.param 2).toNat) ∧
    (a.kind = .strobe ∨ a.mode = .trig → a.channel.map (·.val) = some ((s.param 3).toNat % 8)) ∧
    (a.kind ≠ .strobe → a.mode ≠ .trig → a.channel = none) ∧
    groupNumber a.group = (s.param 3).toNat / 8 % 8 ∧ a.tag = s.param 4 ∧
    a.timeValue.toNat = (s.param 5).toNat + 256 * (s.param 6).toNat + 65536 * (s.param 7).toNat
      + 16777216 * (s.param 8).toNat ∧
    (a.kind = .pulse ∨ a.kind = .strobe →
      a.width.map (·.toNat) = some ((s.param 9).toNat + 256 * (s.param 10).toNat)) ∧
    (a.kind ≠ .pulse → a.kind ≠ .strobe → a.width = none) ∧
    a.count.toNat = (s.param 11).toNat + 256 * (s.param 12).toNat ∧
    a.period.toNat = (s.param 13).toNat + 256 * (s.param 14).toNat + 65536 * (s.param 15).toNat ∧
    a.wellFormed = true

/-- An accepted POST leaves its slot OPEN at the tail of its group's open list, which is then FILLING, or places it at
once when its group is 0: ABS at its time value, REL that far from now, TRIG on its channel's parked list; statistics
cleared, remaining loaded with count, the slot number in RESULT0, and nothing else changed (01 sections 1.4, 1.5). -/
def Obligations.PostOpensOrPlacesTheSlot : Prop :=
  ∀ (s : State) (a : Action) (n : SlotNo),
    s.cu.busy = true → s.cu.code = 0x01#8 → s.checkPost = .ok (a, n) →
    let h : Held := { action := a, remaining := a.count, fired := 0, missed := 0, worstLateness := 0, ackLatency := 0,
                      supersedePending := false }
    (∀ g : GroupNo, a.group = some g →
      exec .post s = .next (State.accepted
        { s with
          slots := s.slots.set n.val (.opened h) n.isLt
          groups := s.groups.set g.val
            { s.group g with openList := (s.group g).openList ++ [n], state := .filling } g.isLt }
        [BitVec.ofNat 8 n.val])) ∧
    (a.group = none → a.mode = .abs →
      exec .post s = .next (State.accepted
        { s with
          slots := s.slots.set n.val (.scheduled h a.timeValue) n.isLt
          calendar := insertEntry s.now ⟨n, .lead, a.timeValue, 0⟩ s.calendar }
        [BitVec.ofNat 8 n.val])) ∧
    (a.group = none → a.mode = .rel →
      exec .post s = .next (State.accepted
        { s with
          slots := s.slots.set n.val (.scheduled h (s.now + a.timeValue)) n.isLt
          calendar := insertEntry s.now ⟨n, .lead, s.now + a.timeValue, 0⟩ s.calendar }
        [BitVec.ofNat 8 n.val])) ∧
    (∀ c : ChanNo, a.group = none → a.mode = .trig → a.channel = some c →
      exec .post s = .next (State.accepted
        { s with
          slots := s.slots.set n.val (.parked h) n.isLt
          channels := s.channels.set c.val
            { s.channel c with parked := (s.channel c).parked ++ [n] } c.isLt }
        [BitVec.ofNat 8 n.val]))

/-! ### CANCEL -/

/-- A CANCEL is refused BADSLOT above 63 and NOTLIVE on a FREE or COMPLETE slot (R14). R15: on an OPEN slot it removes the
slot from its group's open list, the others keeping their order, and frees it without a completion record; when the list
becomes empty a FILLING group becomes EMPTY and a PENDING group stays PENDING. -/
def Obligations.CancelRefusalsAndOpenSlot : Prop :=
  ∀ s : State, s.cu.busy = true → s.cu.code = 0x02#8 →
    (63 < (s.param 0).toNat → exec .cancel s = .next (s.refused .badSlot)) ∧
    (∀ n : SlotNo, (s.param 0).toNat = n.val → s.slot n = .free → exec .cancel s = .next (s.refused .notLive)) ∧
    (∀ (n : SlotNo) (h : Held) (status : Status) (time : Tick), (s.param 0).toNat = n.val →
      s.slot n = .complete h status time → exec .cancel s = .next (s.refused .notLive)) ∧
    (∀ (n : SlotNo) (h : Held) (g : GroupNo), (s.param 0).toNat = n.val → s.slot n = .opened h →
      h.action.group = some g →
      let rest := (s.group g).openList.filter (· != n)
      exec .cancel s = .next (State.accepted
        { s with
          slots := s.slots.set n.val .free n.isLt
          groups := s.groups.set g.val
            { s.group g with
              openList := rest
              state := if rest = [] ∧ (s.group g).state = .filling then .empty else (s.group g).state } g.isLt }
        [1]))

/-- A CANCEL of a placed slot (01 section 1.7): SCHEDULED, its LEAD entry is withdrawn; PARKED, it leaves its channel's parked
list; ACTIVE, its END entry is withdrawn, its line goes INACTIVE and unclaimed and a STROBE's ack claim is released. It
completes CANCELLED now, RESULT0 holds the state found, the commits that this made due execute, and nothing else changes; with
no commit waiting for the slot, none executes. -/
def Obligations.CancelEndsAPlacedSlot : Prop :=
  ∀ (s : State) (n : SlotNo) (h : Held), s.cu.busy = true → s.cu.code = 0x02#8 → (s.param 0).toNat = n.val →
    let slots := s.slots.set n.val (.complete h .cancelled s.now) n.isLt
    let calendar := s.calendar.filter (fun e => e.slot != n)
    let ends := fun (u : State) (found : Byte) =>
      exec .cancel s = .next (u.runEndedCommits.accepted [found]) ∧ (s.NoCommitWaitsFor n → u.runEndedCommits = u)
    (∀ due : Tick, s.slot n = .scheduled h due →
      ends { s with slots := slots, calendar := calendar, doneQueue := s.doneQueue ++ [n] } 2) ∧
    (∀ c : ChanNo, s.slot n = .parked h → h.action.channel = some c →
      ends
        { s with
          slots := slots
          channels := s.channels.set c.val
            { s.channel c with parked := (s.channel c).parked.filter (· != n) } c.isLt
          doneQueue := s.doneQueue ++ [n] } 3) ∧
    (∀ (leadDue leadTime : Tick) (leadPast : Nat) (l : LineNo),
      s.slot n = .active h leadDue leadTime leadPast → h.action.line = some l → h.action.kind = .pulse →
      ends
        { s with
          slots := slots
          calendar := calendar
          lines := s.lines.set l.val { s.line l with isActive := false, claim := none } l.isLt
          doneQueue := s.doneQueue ++ [n] } 4) ∧
    (∀ (leadDue leadTime : Tick) (leadPast : Nat) (l : LineNo) (c : ChanNo),
      s.slot n = .active h leadDue leadTime leadPast → h.action.line = some l → h.action.kind = .strobe → h.action.channel = some c →
      ends
        { s with
          slots := slots
          calendar := calendar
          lines := s.lines.set l.val { s.line l with isActive := false, claim := none } l.isLt
          channels := s.channels.set c.val { s.channel c with ackClaim := none } c.isLt
          doneQueue := s.doneQueue ++ [n] } 4)

/-- The commits that an event makes due by ending an anchor (05 sections 5.4 and 5.5). They execute one at a time, each time the
lowest-numbered group whose anchor is no longer live, with cause ANCHOR_ENDED, until none is due. So a CANCEL, a FORCE with
BREAK, the end of a PULSE or STROBE that completes it, an acknowledge that completes it, and a COMMIT of another group that
supersedes it execute, within the event, every commit pending on the slot: the group is EMPTY with its done flag set, the
members of its open list are SCHEDULED or PARKED with the event's now as time of placement, and with the replace flag its
placed generation is retired (`CommitDone`). -/
def Obligations.EndedAnchorRunsItsCommits : Prop :=
  (∀ s : State,
    let due := fun (g : GroupNo) (anchor : SlotNo) (replace : Bool) =>
      (s.group g).state = .pending anchor replace ∧ (s.slot anchor).isLive = false
    ((∀ g anchor replace, ¬ due g anchor replace) → s.runEndedCommits = s) ∧
    (∀ g anchor replace, due g anchor replace → (∀ k < g, ∀ a b, ¬ due k a b) →
      s.runEndedCommits = (s.commitGroup g replace .anchorEnded).runEndedCommits)) ∧
  (∀ (s : State) (n : SlotNo) (g : GroupNo) (replace : Bool),
    s.cu.busy = true → s.cu.code = 0x02#8 → (s.param 0).toNat = n.val → (s.slot n).isLive = true →
    (s.group g).state = .pending n replace →
    ∃ t : State, exec .cancel s = .next t ∧ t.cu.resultCode = .ok ∧ (t.slot n).isComplete = true ∧
      t.group g = { state := .empty, openList := [], lastCause := .anchorEnded, done := true } ∧
      (s.OpenListsHold → State.CommitDone s t g replace .anchorEnded (some n))) ∧
  (∀ (s : State) (l : LineNo) (n : SlotNo) (h : Held) (leadDue leadTime : Tick) (leadPast : Nat) (g : GroupNo)
      (replace : Bool),
    s.cu.busy = true → s.cu.code = 0x07#8 → (s.param 0).toNat = l.val → (s.param 1).toNat ≤ 1 →
    (s.param 2).getLsbD 0 = true → (s.line l).claim = some n → s.slot n = .active h leadDue leadTime leadPast →
    (s.group g).state = .pending n replace → s.OpenListsHold →
    ∃ t : State, exec .force s = .next t ∧ (t.slot n).isComplete = true ∧
      State.CommitDone s t g replace .anchorEnded (some n)) ∧
  (∀ (s : State) (e : Entry) (rest : List Entry) (h : Held) (leadDue leadTime : Tick) (leadPast : Nat) (g : GroupNo)
      (replace : Bool),
    s.tb.state = .running → s.calendar = e :: rest → e.distance s.now ≤ 0 → e.phase = .trailing →
    s.slot e.slot = .active h leadDue leadTime leadPast → (h.action.kind = .strobe ∨ h.completesNext) →
    (s.group g).state = .pending e.slot replace → s.OpenListsHold →
    ∃ t : State, exec .endRelease s = .next t ∧ (t.slot e.slot).isComplete = true ∧
      State.CommitDone s t g replace .anchorEnded (some e.slot)) ∧
  (∀ (s : State) (ch : ChanNo) (dir : EdgeDir) (n : SlotNo) (h : Held) (leadDue leadTime : Tick) (leadPast : Nat)
      (g : GroupNo) (replace : Bool),
    s.tb.state = .running → (s.channel ch).mode = .ack →
    ((s.channel ch).edge = .both ∨ ((s.channel ch).edge = .rise ∧ dir = .rising)
      ∨ ((s.channel ch).edge = .fall ∧ dir = .falling)) →
    (s.channel ch).ackClaim = some n → s.slot n = .active h leadDue leadTime leadPast → h.completesNext →
    (s.group g).state = .pending n replace → s.OpenListsHold →
    ∃ t : State, exec (.edge ch dir) s = .next t ∧ (t.slot n).isComplete = true ∧
      State.CommitDone s t g replace .anchorEnded (some n)) ∧
  (∀ (s : State) (k g : GroupNo) (n : SlotNo) (h : Held) (replace : Bool),
    s.cu.busy = true → s.cu.code = 0x03#8 → (s.param 0).toNat = k.val + 1 → (s.param 1).toNat = 0 →
    (s.param 2).getLsbD 0 = true → (∀ (a : SlotNo) (b : Bool), (s.group k).state ≠ .pending a b) →
    (s.slot n = .parked h ∨ ∃ due : Tick, s.slot n = .scheduled h due) → h.action.group = some k →
    (s.group g).state = .pending n replace → s.OpenListsHold →
    ∃ t : State, exec .commit s = .next t ∧ (t.slot n).isComplete = true ∧
      State.CommitDone s t g replace .anchorEnded none)

/-! ### COMMIT and DISCARD -/

/-- R90: the checks of a COMMIT in their order; the first that fails names the result, and a COMMIT that passes them all
ends OK. With NOW the anchor is not checked; a refused COMMIT changes no group and no slot. -/
def Obligations.CommitResultCode : Prop :=
  ∀ s : State, s.cu.busy = true → s.cu.code = 0x03#8 →
    let group := (s.param 0).toNat
    let choice := (s.param 1).toNat
    let replace := (s.param 2).getLsbD 0
    let anchor := (s.param 3).toNat
    ∃ t : State, exec .commit s = .next t ∧
      t.cu.resultCode =
        (if group = 0 ∨ 7 < group then .badGroup
        else if 1 < choice then .badCfg
        else if choice = 1 ∧ 63 < anchor then .badSlot
        else if ∃ (g : GroupNo) (a : SlotNo) (r : Bool), group = g.val + 1 ∧ (s.group g).state = .pending a r
          then .groupState
        else if (∃ g : GroupNo, group = g.val + 1 ∧ (s.group g).state = .empty) ∧ replace = false then .emptyGroup
        else if choice = 1 ∧ ∃ n : SlotNo, anchor = n.val ∧ (s.slot n).isLive = false then .notLive
        else .ok) ∧
      (t.cu.resultCode ≠ .ok → t.groups = s.groups ∧ t.slots = s.slots)

/-- R92: a COMMIT with ANCHOR that passes its checks makes its group PENDING on the anchor with the replace flag given;
the open count and the anchor's state are the result; nothing is placed or retired and nothing else changes. -/
def Obligations.CommitAtAnchorMakesTheGroupPending : Prop :=
  ∀ (s : State) (g : GroupNo) (anchor : SlotNo), s.cu.busy = true → s.cu.code = 0x03#8 →
    (s.param 0).toNat = g.val + 1 → (s.param 1).toNat = 1 → (s.param 3).toNat = anchor.val →
    (∀ (a : SlotNo) (r : Bool), (s.group g).state ≠ .pending a r) →
    ((s.group g).state = .empty → (s.param 2).getLsbD 0 = true) → (s.slot anchor).isLive = true →
    exec .commit s = .next (State.accepted
      { s with
        groups := s.groups.set g.val
          { s.group g with state := .pending anchor ((s.param 2).getLsbD 0) } g.isLt }
      [BitVec.ofNat 8 (s.group g).openList.length, BitVec.ofNat 8 (s.slot anchor).code])

/-- A COMMIT with NOW and without REPLACE places the members of the open list in list order with the COMMIT's now as the
time of placement, leaves the group EMPTY with cause NOW and its done flag as it was, returns the count of members, and
changes nothing else (05 sections 5.3 and 5.4). -/
def Obligations.CommitNowPlacesTheOpenList : Prop :=
  ∀ (s : State) (g : GroupNo), s.cu.busy = true → s.cu.code = 0x03#8 →
    (s.param 0).toNat = g.val + 1 → (s.param 1).toNat = 0 → (s.param 2).getLsbD 0 = false →
    (s.group g).state = .filling → s.OpenListsHold → s.AnchorsLive →
    let members := (s.group g).openList
    let dues := members.filterMap (fun n => match s.slot n with
      | .opened h => match h.action.mode with
        | .abs => some (n, h.action.timeValue)
        | .rel => some (n, s.now + h.action.timeValue)
        | .trig => none
      | _ => none)
    ∃ t : State, exec .commit s = .next t ∧
      t = { s with slots := t.slots, calendar := t.calendar, channels := t.channels, groups := t.groups, cu := t.cu,
                   cmdCause := true } ∧
      t.cu = (s.accepted [BitVec.ofNat 8 members.length, 0, 0]).cu ∧
      t.groups = s.groups.set g.val { s.group g with state := .empty, openList := [], lastCause := .now } g.isLt ∧
      (∀ n : SlotNo, t.slot n = match s.slot n with
        | .opened h =>
          if h.action.group = some g then
            let loaded := { h with remaining := h.action.count }
            match h.action.mode with
            | .abs => .scheduled loaded h.action.timeValue
            | .rel => .scheduled loaded (s.now + h.action.timeValue)
            | .trig => .parked loaded
          else .opened h
        | other => other) ∧
      t.calendar = dues.foldl (fun entries d => insertEntry s.now ⟨d.1, .lead, d.2, 0⟩ entries) s.calendar ∧
      (∀ c : ChanNo, t.channel c =
        { s.channel c with
          parked := (s.channel c).parked ++ members.filter (fun n => match s.slot n with
            | .opened h => h.action.mode == .trig && h.action.channel == some c
            | _ => false) })

/-- A COMMIT with NOW and REPLACE executes the commit of its group, then the commits it has made due, and returns the counts
of members placed, slots superseded and slots newly marked (05 section 5.3; that a slot marked before is not counted is the
model's reading, log 12); where no commit of another group waits for a slot of the generation, no other commit executes. Every
commit of a group, whatever its cause (05 section 5.4): with REPLACE, the SCHEDULED and PARKED slots of the placed generation
complete SUPERSEDED now in ascending slot number, SCHEDULED ones leaving the calendar and PARKED ones their parked list, and
its ACTIVE slots are marked supersede-pending and keep line claim, ack claim and END entry; then the members of the open list
are placed in list order, at their time value, that far from now, or at the tail of their channel's parked list, with remaining
loaded with count; the group becomes EMPTY with its cause, and its done flag set unless the cause is NOW; nothing else
changes. -/
def Obligations.ReplaceRetiresTheGeneration : Prop :=
  (∀ (s : State) (g : GroupNo), s.cu.busy = true → s.cu.code = 0x03#8 →
    (s.param 0).toNat = g.val + 1 → (s.param 1).toNat = 0 → (s.param 2).getLsbD 0 = true →
    (∀ (a : SlotNo) (r : Bool), (s.group g).state ≠ .pending a r) →
    let retires := fun n : SlotNo => match s.slot n with
      | .scheduled h _ => h.action.group == some g
      | .parked h => h.action.group == some g
      | _ => false
    let marks := fun n : SlotNo => match s.slot n with
      | .active h _ _ _ => h.action.group == some g && !h.supersedePending
      | _ => false
    let u := s.commitGroup g true .now
    exec .commit s = .next (u.runEndedCommits.accepted [BitVec.ofNat 8 (s.group g).openList.length,
      BitVec.ofNat 8 (slotNumbers.countP retires), BitVec.ofNat 8 (slotNumbers.countP marks)]) ∧
    (s.OpenListsHold → s.AnchorsLive →
      (∀ n : SlotNo, (s.slot n).inPlacedGeneration g = true → s.NoCommitWaitsFor n) → u.runEndedCommits = u)) ∧
  (∀ (s : State) (g : GroupNo) (replace : Bool) (cause : CommitCause), s.OpenListsHold →
    let members := (s.group g).openList
    let retires := fun n : SlotNo => replace && (match s.slot n with
      | .scheduled h _ => h.action.group == some g
      | .parked h => h.action.group == some g
      | _ => false)
    let withdrawn := fun n : SlotNo => replace && (match s.slot n with
      | .scheduled h _ => h.action.group == some g
      | _ => false)
    let unparked := fun (c : ChanNo) (n : SlotNo) => replace && (match s.slot n with
      | .parked h => h.action.group == some g && h.action.channel == some c
      | _ => false)
    let dues := members.filterMap (fun n => match s.slot n with
      | .opened h => match h.action.mode with
        | .abs => some (n, h.action.timeValue)
        | .rel => some (n, s.now + h.action.timeValue)
        | .trig => none
      | _ => none)
    let t := s.commitGroup g replace cause
    t = { s with slots := t.slots, calendar := t.calendar, channels := t.channels, groups := t.groups,
                 doneQueue := t.doneQueue } ∧
    t.groups = s.groups.set g.val
      { state := .empty, openList := [], lastCause := cause,
        done := if cause = .now then (s.group g).done else true } g.isLt ∧
    t.doneQueue = s.doneQueue ++ slotNumbers.filter retires ∧
    (∀ n : SlotNo, t.slot n = match s.slot n with
      | .opened h => if h.action.group = some g then h.placedAt s.now else .opened h
      | .scheduled h due =>
        if replace = true ∧ h.action.group = some g then .complete h .superseded s.now else .scheduled h due
      | .parked h => if replace = true ∧ h.action.group = some g then .complete h .superseded s.now else .parked h
      | .active h leadDue leadTime leadPast =>
        if replace = true ∧ h.action.group = some g then
          .active { h with supersedePending := true } leadDue leadTime leadPast
        else .active h leadDue leadTime leadPast
      | other => other) ∧
    t.calendar = dues.foldl (fun entries d => insertEntry s.now ⟨d.1, .lead, d.2, 0⟩ entries)
      (s.calendar.filter (fun e => !withdrawn e.slot)) ∧
    (∀ c : ChanNo, t.channel c =
      { s.channel c with
        parked := (s.channel c).parked.filter (fun n => !unparked c n) ++ members.filter (fun n => match s.slot n with
          | .opened h => h.action.mode == .trig && h.action.channel == some c
          | _ => false) }))

/-- R103: a DISCARD is refused BADGROUP for group 0 or above 7; otherwise every open member returns to FREE, a pending
commit is dropped and the group becomes EMPTY, the last commit cause and the done flag kept; the members freed and
whether a commit was dropped are the result. -/
def Obligations.DiscardFreesTheOpenList : Prop :=
  ∀ s : State, s.cu.busy = true → s.cu.code = 0x04#8 →
    ((s.param 0).toNat = 0 ∨ 7 < (s.param 0).toNat → exec .discard s = .next (s.refused .badGroup)) ∧
    (∀ g : GroupNo, (s.param 0).toNat = g.val + 1 → s.OpenListsHold →
      ∃ t : State, exec .discard s = .next t ∧
        t = { s with slots := t.slots, groups := t.groups, cu := t.cu, cmdCause := true } ∧
        t.cu = (s.accepted [BitVec.ofNat 8 (s.group g).openList.length,
          (match (s.group g).state with
            | .pending _ _ => 1
            | _ => 0)]).cu ∧
        t.groups = s.groups.set g.val { s.group g with state := .empty, openList := [] } g.isLt ∧
        (∀ n : SlotNo, t.slot n = if (s.slot n).isOpenIn g then .free else s.slot n))

/-! ### CHANNEL, LINE and FORCE -/

/-- R112: the checks of a CHANNEL in their order and, when they pass, all six items of the configuration replaced, the
reference and the watch absent, the violation mark clear, the parked list and the rest of the part kept; the previous
mode and the parked count are the result. -/
def Obligations.ChannelReplacesTheConfiguration : Prop :=
  ∀ s : State, s.cu.busy = true → s.cu.code = 0x05#8 →
    let limit := word (s.param 3) (s.param 4) (s.param 5) (s.param 6)
    let badConfig := 4 < (s.param 1).toNat ∨ 2 < (s.param 2).toNat ∨ 1 < (s.param 7).toNat ∨ 2 < (s.param 8).toNat
      ∨ 1 < (s.param 9).toNat ∨ 2 ^ 31 ≤ limit.toNat ∨ ((s.param 1).toNat = 3 ∧ (s.param 2).toNat = 2)
    (7 < (s.param 0).toNat → exec .channel s = .next (s.refused .badChan)) ∧
    (∀ c : ChanNo, (s.param 0).toNat = c.val →
      (badConfig → exec .channel s = .next (s.refused .badCfg)) ∧
      (¬ badConfig → (s.channel c).ackClaim ≠ none → exec .channel s = .next (s.refused .chanBusy)) ∧
      (¬ badConfig → (s.channel c).ackClaim = none →
        ∃ (mode : ChannelMode) (edge : EdgeSetting) (sense : Sense) (policy : LogPolicy) (launchSource : LaunchSource),
          mode.code = (s.param 1).toNat ∧ edge.code = (s.param 2).toNat ∧ sense.code = (s.param 7).toNat ∧
          policy.code = (s.param 8).toNat ∧ launchSource.code = (s.param 9).toNat ∧
          exec .channel s = .next (State.accepted
            { s with
              channels := s.channels.set c.val
                { mode := mode, edge := edge, limit := limit, sense := sense, policy := policy,
                  launchSource := launchSource, reference := none, watch := none, violationMark := false,
                  ackClaim := none, parked := (s.channel c).parked } c.isLt }
            [BitVec.ofNat 8 (s.channel c).mode.code, BitVec.ofNat 8 (s.channel c).parked.length])))

/-- R81: a LINE is refused BADLINE above 15, then BADCFG for an unnamed polarity, then LINEBUSY on a claimed line; otherwise
it replaces the polarity, keeps the logical state, returns the previous polarity and changes nothing else, and the pin
takes the level that the state and the new polarity give. -/
def Obligations.LineSetsThePolarity : Prop :=
  ∀ s : State, s.cu.busy = true → s.cu.code = 0x06#8 →
    (15 < (s.param 0).toNat → exec .line s = .next (s.refused .badLine)) ∧
    (∀ l : LineNo, (s.param 0).toNat = l.val →
      (1 < (s.param 1).toNat → exec .line s = .next (s.refused .badCfg)) ∧
      ((s.param 1).toNat ≤ 1 → (s.line l).claim ≠ none → exec .line s = .next (s.refused .lineBusy)) ∧
      ((s.param 1).toNat ≤ 1 → (s.line l).claim = none →
        let polarity : Polarity := if (s.param 1).toNat = 0 then .activeHigh else .activeLow
        ∃ t : State,
          exec .line s = .next t ∧
          t = State.accepted
            { s with lines := s.lines.set l.val { s.line l with polarity := polarity } l.isLt }
            [if (s.line l).polarity = .activeHigh then 0 else 1] ∧
          t.outputPin l = (if polarity = .activeHigh then (s.line l).isActive else !(s.line l).isActive)))

/-- A FORCE (04 section 4.7) is refused BADLINE above 15, then BADCFG for an unnamed state, then LINEBUSY on a claimed line
without BREAK. On an unclaimed line it sets the logical state and nothing else. With BREAK on a line claimed by an ACTIVE
slot, it withdraws the END entry, releases the claims, completes the slot BROKEN and sets the
state given, and then the commits that this made due execute; with no commit waiting for the slot, none does. The previous
state and the slot broken, or 0xFF, are the result. -/
def Obligations.ForceSetsTheLine : Prop :=
  ∀ s : State, s.cu.busy = true → s.cu.code = 0x07#8 →
    (15 < (s.param 0).toNat → exec .force s = .next (s.refused .badLine)) ∧
    (∀ l : LineNo, (s.param 0).toNat = l.val →
      let isActive := (s.param 1).toNat == 1
      let previous : Byte := if (s.line l).isActive then 1 else 0
      (1 < (s.param 1).toNat → exec .force s = .next (s.refused .badCfg)) ∧
      ((s.param 1).toNat ≤ 1 → (s.line l).claim ≠ none → (s.param 2).getLsbD 0 = false →
        exec .force s = .next (s.refused .lineBusy)) ∧
      ((s.param 1).toNat ≤ 1 → (s.line l).claim = none →
        exec .force s = .next (State.accepted
          { s with lines := s.lines.set l.val { s.line l with isActive := isActive } l.isLt } [previous, 0xFF#8])) ∧
      (∀ (n : SlotNo) (h : Held) (leadDue leadTime : Tick) (leadPast : Nat), (s.param 1).toNat ≤ 1 →
        (s.line l).claim = some n → (s.param 2).getLsbD 0 = true → s.slot n = .active h leadDue leadTime leadPast → h.action.line = some l →
        let broken : State :=
          { s with
            slots := s.slots.set n.val (.complete h .broken s.now) n.isLt
            calendar := s.calendar.filter (fun e => e.slot != n)
            lines := s.lines.set l.val { s.line l with isActive := isActive, claim := none } l.isLt
            doneQueue := s.doneQueue ++ [n] }
        let breaks := fun u : State =>
          exec .force s = .next (u.runEndedCommits.accepted [previous, BitVec.ofNat 8 n.val]) ∧
          (s.NoCommitWaitsFor n → u.runEndedCommits = u)
        (h.action.kind = .pulse → breaks broken) ∧
        (∀ c : ChanNo, h.action.kind = .strobe → h.action.channel = some c →
          breaks { broken with channels := s.channels.set c.val { s.channel c with ackClaim := none } c.isLt })))

/-! ### TIMEBASE and LATENESS -/

/-- A TIMEBASE is refused (02 section 2.6): BADCFG for an operation that is none of the four, whichever row executes it
(log 3), or for a SOURCE that names no source; TBSTATE for START while RUNNING, STOP while STOPPED, LOAD or SOURCE while
RUNNING; CALNONEMPTY for a LOAD with entries in the calendar. -/
def Obligations.TimebaseRefusals : Prop :=
  ∀ s : State, s.cu.busy = true → s.cu.code = 0x08#8 →
    (3 < (s.param 0).toNat → ∀ c ∈ [Instr.timebaseStart, .timebaseStop, .timebaseLoad, .timebaseSource],
      exec c s = .next (s.refused .badCfg)) ∧
    ((s.param 0).toNat = 0 → s.tb.state = .running → exec .timebaseStart s = .next (s.refused .tbState)) ∧
    ((s.param 0).toNat = 1 → s.tb.state = .stopped → exec .timebaseStop s = .next (s.refused .tbState)) ∧
    ((s.param 0).toNat = 2 → s.tb.state = .running → exec .timebaseLoad s = .next (s.refused .tbState)) ∧
    ((s.param 0).toNat = 2 → s.tb.state = .stopped → s.calendar ≠ [] →
      exec .timebaseLoad s = .next (s.refused .calNonEmpty)) ∧
    ((s.param 0).toNat = 3 → 1 < (s.param 5).toNat → exec .timebaseSource s = .next (s.refused .badCfg)) ∧
    ((s.param 0).toNat = 3 → (s.param 5).toNat ≤ 1 → s.tb.state = .running →
      exec .timebaseSource s = .next (s.refused .tbState))

/-- The four TIMEBASE operations (02 section 2.6): START makes the timebase RUNNING and clears the prescale count; STOP
makes it STOPPED and LOAD sets its value, each clearing every channel's reference, watch and violation mark; SOURCE
replaces source and prescale, PARAM6 holding prescale - 1. Nothing else changes but the model's own advance-due mark,
which START and STOP clear (log 4), and the value and the state after the operation are the result. -/
def Obligations.TimebaseOperations : Prop :=
  ∀ s : State, s.cu.busy = true → s.cu.code = 0x08#8 →
    let bytes := fun (v : Tick) (running : Byte) =>
      [v.extractLsb' 0 8, v.extractLsb' 8 8, v.extractLsb' 16 8, v.extractLsb' 24 8, running]
    let cleared := Vector.ofFn (fun c : ChanNo =>
      { s.channel c with reference := none, watch := none, violationMark := false })
    ((s.param 0).toNat = 0 → s.tb.state = .stopped →
      exec .timebaseStart s = .next (State.accepted
        { s with tb := { s.tb with state := .running, prescaleCount := 0, advanceDue := false } }
        (bytes s.tb.value 1))) ∧
    ((s.param 0).toNat = 1 → s.tb.state = .running →
      exec .timebaseStop s = .next (State.accepted
        { s with tb := { s.tb with state := .stopped, advanceDue := false }, channels := cleared }
        (bytes s.tb.value 0))) ∧
    ((s.param 0).toNat = 2 → s.tb.state = .stopped → s.calendar = [] →
      let value := word (s.param 1) (s.param 2) (s.param 3) (s.param 4)
      exec .timebaseLoad s = .next (State.accepted
        { s with tb := { s.tb with value := value }, channels := cleared } (bytes value 0))) ∧
    ((s.param 0).toNat = 3 → s.tb.state = .stopped → (s.param 5).toNat ≤ 1 →
      exec .timebaseSource s = .next (State.accepted
        { s with
          tb := { s.tb with
            source := if (s.param 5).toNat = 0 then .internal else .external
            prescale := (s.param 6).toNat + 1 } }
        (bytes s.tb.value 0)))

/-- R54: a LATENESS replaces the limit with the 16-bit value given, every value accepted, returns the limit that was in force
and changes nothing else; an attempt after it is judged against the new limit. -/
def Obligations.LatenessReplacesTheLimit : Prop :=
  ∀ s : State, s.cu.busy = true → s.cu.code = 0x09#8 →
    ∃ t : State,
      exec .lateness s = .next t ∧
      t = State.accepted { s with latenessLimit := t.latenessLimit }
        [s.latenessLimit.extractLsb' 0 8, s.latenessLimit.extractLsb' 8 8] ∧
      t.latenessLimit.toNat = (s.param 0).toNat + 256 * (s.param 1).toNat ∧
      (∀ (h : Held) (lateness : Nat),
        t.refusal h lateness = some .expired ↔ t.latenessLimit.toNat ≠ 0 ∧ t.latenessLimit.toNat < lateness)

/-! ### QUIESCE -/

/-- A QUIESCE drops every pending commit, frees every OPEN slot and completes every SCHEDULED, PARKED and ACTIVE slot
QUIESCED in ascending slot number, makes every line INACTIVE and unclaimed with its polarity kept, clears every channel's
measurement state, ack claim and parked list with its configuration kept, empties the calendar, leaves every group EMPTY
with its cause and done flag kept, and returns the two counts (09 section 9.3, R178; 01 section 1.9). -/
def Obligations.QuiesceStopsAllTimedWork : Prop :=
  ∀ s : State, s.cu.busy = true → s.cu.code = 0x0B#8 → s.Lawful →
    ∃ t : State, exec .quiesce s = .next t ∧
      t = { s with slots := t.slots, calendar := [], lines := t.lines, channels := t.channels, groups := t.groups,
                   doneQueue := t.doneQueue, cu := t.cu, cmdCause := true } ∧
      t.cu = (s.accepted [BitVec.ofNat 8 (slotNumbers.countP (fun n => (s.slot n).isLive)),
        BitVec.ofNat 8 (slotNumbers.countP (fun n => (s.slot n).isOpened))]).cu ∧
      t.doneQueue = s.doneQueue ++ slotNumbers.filter (fun n => (s.slot n).isLive) ∧
      (∀ n : SlotNo, t.slot n = match s.slot n with
        | .opened _ => .free
        | .scheduled h _ => .complete h .quiesced s.now
        | .parked h => .complete h .quiesced s.now
        | .active h _ _ _ => .complete h .quiesced s.now
        | other => other) ∧
      (∀ l : LineNo, t.line l = { isActive := false, polarity := (s.line l).polarity, claim := none }) ∧
      (∀ c : ChanNo, t.channel c =
        { s.channel c with reference := none, watch := none, violationMark := false, ackClaim := none, parked := [] }) ∧
      (∀ g : GroupNo, t.group g = { s.group g with state := .empty, openList := [] })

/-! ### INSPECT -/

/-- An INSPECT SLOT is refused BADCFG for a target above 4 (log 3), then BADSLOT for an index above 63; otherwise it returns
the view of the slot in R185's layout and changes nothing but the end of its execution (01 section 1.8, 09 section 9.7). That
bits 2..0 of RESULT4 are 0 for a slot that is not FREE and has no channel is the model's choice (log 18). -/
def Obligations.InspectSlotReturnsTheView : Prop :=
  ∀ s : State, s.cu.busy = true → s.cu.code = 0x0C#8 →
    (4 < (s.param 0).toNat → exec .inspectSlot s = .next (s.refused .badCfg)) ∧
    ((s.param 0).toNat = 0 → 63 < (s.param 1).toNat → exec .inspectSlot s = .next (s.refused .badSlot)) ∧
    (∀ n : SlotNo, (s.param 0).toNat = 0 → (s.param 1).toNat = n.val →
      (s.slot n = .free → exec .inspectSlot s = .next (s.accepted [0, 0, 0, 0xFF#8, 0x80#8])) ∧
      (∀ h : Held, (s.slot n).held? = some h →
        let time : Tick := match s.slot n with
          | .free => 0
          | .opened _ => h.action.timeValue
          | .scheduled _ due => due
          | .parked _ => h.action.timeValue
          | .active _ _ leadTime _ => leadTime
          | .complete _ _ completionTime => completionTime
        exec .inspectSlot s = .next (s.accepted
          [BitVec.ofNat 8 (s.slot n).code, BitVec.ofNat 8 h.action.kind.code,
            BitVec.ofNat 8 (h.action.mode.code + 32 * h.supersedePending.toNat + 64 * h.action.logOption.toNat
              + 128 * h.action.rearm.toNat),
            (match h.action.line with
              | none => 0xFF#8
              | some l => BitVec.ofNat 8 l.val),
            BitVec.ofNat 8 (8 * groupNumber h.action.group + (match h.action.channel with
              | none => 128
              | some c => c.val)),
            h.action.tag,
            (match s.slot n with
              | .complete _ status _ => BitVec.ofNat 8 status.code
              | _ => 0),
            h.missed, time.extractLsb' 0 8, time.extractLsb' 8 8, time.extractLsb' 16 8, time.extractLsb' 24 8,
            h.remaining.extractLsb' 0 8, h.remaining.extractLsb' 8 8,
            h.fired.extractLsb' 0 8, h.fired.extractLsb' 8 8])))

/-- The other INSPECT targets: BADCFG for a target above 4 (log 3), BADGROUP and BADCHAN for an index out of range, and
otherwise the view in R186's and R187's layouts, with nothing changed but the end of the execution (05 section 5.8, 06
section 6.8, 04 section 4.9, 03 section 3.6, 09 section 9.7). -/
def Obligations.InspectOtherTargetsReturnTheirViews : Prop :=
  ∀ s : State, s.cu.busy = true → s.cu.code = 0x0C#8 →
    (4 < (s.param 0).toNat → ∀ c ∈ [Instr.inspectGroup, .inspectChannel, .inspectLines, .inspectTime],
      exec c s = .next (s.refused .badCfg)) ∧
    ((s.param 0).toNat = 1 → (s.param 1).toNat = 0 ∨ 7 < (s.param 1).toNat →
      exec .inspectGroup s = .next (s.refused .badGroup)) ∧
    (∀ g : GroupNo, (s.param 0).toNat = 1 → (s.param 1).toNat = g.val + 1 →
      exec .inspectGroup s = .next (s.accepted
        [BitVec.ofNat 8 (s.group g).state.code, BitVec.ofNat 8 (s.group g).openList.length,
          BitVec.ofNat 8 (slotNumbers.countP (fun n => (s.slot n).inPlacedGeneration g)),
          (match (s.group g).state with
            | .pending anchor _ => BitVec.ofNat 8 anchor.val
            | _ => 0xFF#8),
          (match (s.group g).state with
            | .pending _ true => 1
            | _ => 0),
          BitVec.ofNat 8 (s.group g).lastCause.code])) ∧
    ((s.param 0).toNat = 2 → 7 < (s.param 1).toNat → exec .inspectChannel s = .next (s.refused .badChan)) ∧
    (∀ c : ChanNo, (s.param 0).toNat = 2 → (s.param 1).toNat = c.val →
      let ch := s.channel c
      let bytes := fun v : Tick => [v.extractLsb' 0 8, v.extractLsb' 8 8, v.extractLsb' 16 8, v.extractLsb' 24 8]
      exec .inspectChannel s = .next (s.accepted
        ([BitVec.ofNat 8 (ch.mode.code + 8 * ch.edge.code + 32 * ch.sense.code + 64 * ch.launchSource.code
              + 128 * (s.pins.get c).toNat),
            BitVec.ofNat 8 (ch.policy.code + 4 * ch.reference.isSome.toNat + 8 * ch.watch.isSome.toNat),
            (match ch.ackClaim with
              | none => 0xFF#8
              | some n => BitVec.ofNat 8 n.val),
            BitVec.ofNat 8 ch.parked.length]
          ++ bytes ch.limit ++ bytes (ch.reference.getD 0) ++ bytes (ch.watch.getD 0)))) ∧
    ((s.param 0).toNat = 3 →
      ∃ states claims polarities : BitVec 16,
        exec .inspectLines s = .next (s.accepted
          [states.extractLsb' 0 8, states.extractLsb' 8 8, claims.extractLsb' 0 8, claims.extractLsb' 8 8,
            polarities.extractLsb' 0 8, polarities.extractLsb' 8 8]) ∧
        ∀ l : LineNo, states.getLsbD l.val = (s.line l).isActive ∧ claims.getLsbD l.val = (s.line l).claim.isSome ∧
          (polarities.getLsbD l.val = true ↔ (s.line l).polarity = .activeLow)) ∧
    ((s.param 0).toNat = 4 →
      let head : Tick := match s.calendar with
        | [] => 0
        | e :: _ => e.due
      exec .inspectTime s = .next (s.accepted
        [s.now.extractLsb' 0 8, s.now.extractLsb' 8 8, s.now.extractLsb' 16 8, s.now.extractLsb' 24 8,
          BitVec.ofNat 8 s.tb.state.code, s.latenessLimit.extractLsb' 0 8, s.latenessLimit.extractLsb' 8 8,
          BitVec.ofNat 8 s.calendar.length, (if s.calendar = [] then 0 else 1),
          head.extractLsb' 0 8, head.extractLsb' 8 8, head.extractLsb' 16 8, head.extractLsb' 24 8]))

/-! ### Time and the calendar -/

/-- A source edge on the selected pin while RUNNING is counted; when the count reaches the prescale it returns to 0 and the
next ADVANCE adds 1 to the value modulo 2^32, every calendar entry keeping its fields and coming one tick closer but none
below distance -2^31 (02 section 2.2, 03 section 3.4). An edge on the other pin is not counted, and an ADVANCE without a
due advance changes nothing. That the edge and its advance are two steps, and that a further counted edge takes a due
advance first, is the model's choice (log 4). -/
def Obligations.SourceEdgesMakeAdvances : Prop :=
  ∀ (s : State) (pin : SourcePin), s.tb.state = .running →
    ((s.tb.source = .internal ∧ pin = .tcnt) ∨ (s.tb.source = .external ∧ pin = .clk) →
      exec (.sourceEdge pin) s = .next s) ∧
    ((s.tb.source = .internal ∧ pin = .clk) ∨ (s.tb.source = .external ∧ pin = .tcnt) → s.tb.advanceDue = false →
      exec (.sourceEdge pin) s = .next
        { s with
          tb := { s.tb with
            prescaleCount := if s.tb.prescaleCount + 1 = s.tb.prescale then 0 else s.tb.prescaleCount + 1
            advanceDue := decide (s.tb.prescaleCount + 1 = s.tb.prescale) } }) ∧
    (s.tb.advanceDue = false → exec .advance s = .next s) ∧
    (s.tb.advanceDue = true →
      ∃ t : State, exec .advance s = .next t ∧
        t = { s with tb := { s.tb with value := s.tb.value + 1, advanceDue := false }, calendar := t.calendar } ∧
        t.calendar.map (fun e => (e.slot, e.phase, e.due)) = s.calendar.map (fun e => (e.slot, e.phase, e.due)) ∧
        t.calendar.map (Entry.distance t.now)
          = s.calendar.map (fun e => max (e.distance s.now - 1) (-2147483648)) ∧
        ((s.tb.source = .internal ∧ pin = .clk) ∨ (s.tb.source = .external ∧ pin = .tcnt) →
          exec (.sourceEdge pin) s = exec (.sourceEdge pin) t))

/-- While the timebase is STOPPED no source edge is counted, no advance, expiry or release occurs, and an edge on an input
pin changes the level of the pin and nothing else (02 section 2.3, 06 section 6.2). -/
def Obligations.StoppedTimebaseHoldsEverything : Prop :=
  ∀ s : State, s.tb.state = .stopped →
    (∀ pin : SourcePin, exec (.sourceEdge pin) s = .next s) ∧ exec .advance s = .next s ∧
    (∀ ch : ChanNo, exec (.watchExpiry ch) s = .next s ∧ exec (.referenceExpiry ch) s = .next s) ∧
    exec .leadRelease s = .next s ∧ exec .endRelease s = .next s ∧
    (∀ (ch : ChanNo) (dir : EdgeDir),
      exec (.edge ch dir) s = .next { s with pins := s.pins.set ch.val (dir == .rising) ch.isLt })

/-- An insertion places the new entry after every entry whose distance is less than or equal to its own and before every
entry whose distance is greater, the others keeping their order (03 section 3.2). -/
def Obligations.InsertionOrder : Prop :=
  ∀ (now : Tick) (new : Entry) (entries : List Entry),
    entries.Pairwise (fun a b => a.distance now ≤ b.distance now) →
    ∃ before after : List Entry,
      entries = before ++ after ∧ insertEntry now new entries = before ++ new :: after ∧
      (∀ e ∈ before, e.distance now ≤ new.distance now) ∧ (∀ e ∈ after, new.distance now < e.distance now)

/-! ### Shared effects: the capture log, a launch, a continuation -/

/-- The capture log (08 sections 8.2 and 8.3). An append to a log of fewer than 32 records stores the record at the tail; one
to a full log drops it and sets the overrun mark of the tail record, and LOGOVR is then set; nothing else changes. A FLUSH
empties the log, returns the number of records removed and whether any was marked, and changes nothing else; LOGMARK and
LOGOVR are then clear. -/
def Obligations.CaptureLogAppendsAndFlush : Prop :=
  (∀ (s : State) (c : Capture),
    (s.log.length < 32 → s.appendCapture c = { s with log := s.log ++ [c] }) ∧
    (∀ (older : List Capture) (newest : Capture), s.log = older ++ [newest] → 32 ≤ s.log.length →
      s.appendCapture c = { s with log := older ++ [{ newest with overrun := true }] } ∧
      (s.appendCapture c).causeBits.getLsbD 2 = true)) ∧
  (∀ s : State, s.cu.busy = true → s.cu.code = 0x0A#8 →
    ∃ t : State,
      exec .flush s = .next t ∧
      t = State.accepted { s with log := [] }
        [BitVec.ofNat 8 s.log.length, if ∃ c ∈ s.log, c.overrun = true then 1 else 0] ∧
      t.causeBits.getLsbD 1 = false ∧ t.causeBits.getLsbD 2 = false)

/-- A launch takes every slot off the channel's parked list, in list order, into the calendar at the trigger time plus its
time value, with remaining loaded with count; the list is then empty and nothing else changes (06 section 6.7). -/
def Obligations.LaunchEmptiesTheParkedList : Prop :=
  ∀ (s : State) (ch : ChanNo) (trigger : Tick), s.ParkedListsHold →
    let t := s.launch ch trigger
    t = { s with slots := t.slots, calendar := t.calendar, channels := t.channels } ∧
    t.channels = s.channels.set ch.val { s.channel ch with parked := [] } ch.isLt ∧
    (∀ n : SlotNo, t.slot n = match s.slot n with
      | .parked h =>
        if h.action.channel = some ch then
          .scheduled { h with remaining := h.action.count } (trigger + h.action.timeValue)
        else .parked h
      | other => other) ∧
    t.calendar = ((s.channel ch).parked.filterMap (fun n => match s.slot n with
        | .parked h => some (n, trigger + h.action.timeValue)
        | _ => none)).foldl
      (fun entries d => insertEntry s.now ⟨d.1, .lead, d.2, 0⟩ entries) s.calendar

/-- The continuation takes the first outcome that holds: SUPERSEDED when supersede-pending is set; a re-arm at the base plus
the period when the count is 0 or attempts remain; a re-park with remaining loaded with count for a REARM slot; DONE. A
completion carries the event's now and joins the tail of the completion queue (04 section 4.4). The distance of a re-arm whose
base lies `behind` ticks behind now is the period less `behind`, so it is at most the period and behind when the slot has fallen
more than one period behind its grid (03 section 3.1); that one below -2^31 is taken as -2^31 is the model's reading of 03
section 3.4 (logs 10 and 19). -/
def Obligations.ContinuationTakesTheFirstOutcome : Prop :=
  ∀ (s : State) (n : SlotNo) (h : Held) (base : Tick) (behind : Nat),
    let due := base + BitVec.ofNat 32 h.action.period.toNat
    let again := h.action.count.toNat = 0 ∨ 0 < h.remaining.toNat
    (h.supersedePending = true →
      s.continuation n h base behind
        = { s with slots := s.slots.set n.val (.complete h .superseded s.now) n.isLt, doneQueue := s.doneQueue ++ [n] }) ∧
    (h.supersedePending = false → again →
      ∃ e : Entry,
        s.continuation n h base behind
          = { s with
              slots := s.slots.set n.val (.scheduled h due) n.isLt
              calendar := insertEntry s.now e s.calendar } ∧
        e.slot = n ∧ e.phase = .lead ∧ e.due = due ∧
        e.pastFloor = behind - (h.action.period.toNat + 2147483648) ∧
        (s.now - base = BitVec.ofNat 32 behind →
          e.distance s.now = max ((h.action.period.toNat : Int) - behind) (-2147483648) ∧
          e.distance s.now ≤ h.action.period.toNat ∧
          (h.action.period.toNat < behind → e.distance s.now < 0))) ∧
    (∀ c : ChanNo, h.supersedePending = false → ¬ again → h.action.rearm = true → h.action.channel = some c →
      s.continuation n h base behind
        = { s with
            slots := s.slots.set n.val (.parked { h with remaining := h.action.count }) n.isLt
            channels := s.channels.set c.val
              { s.channel c with parked := (s.channel c).parked ++ [n] } c.isLt }) ∧
    (h.supersedePending = false → ¬ again → h.action.rearm = false →
      s.continuation n h base behind
        = { s with slots := s.slots.set n.val (.complete h .done s.now) n.isLt, doneQueue := s.doneQueue ++ [n] })

/-! ### Input channels -/

/-- An edge that an OFF channel sees, or one that is not selected in STAMP, PERIOD or ACK mode, changes the pin's level and
nothing else. A selected edge in STAMP mode appends a STAMP record under log policy ALL, then launches the parked list
with its timestamp when the launch source is EDGE (06 sections 6.2 and 6.4). -/
def Obligations.UnselectedAndStampEdges : Prop :=
  ∀ (s : State) (ch : ChanNo) (dir : EdgeDir), s.tb.state = .running →
    let c := s.channel ch
    let selected := c.edge = .both ∨ (c.edge = .rise ∧ dir = .rising) ∨ (c.edge = .fall ∧ dir = .falling)
    let seen : State := { s with pins := s.pins.set ch.val (dir == .rising) ch.isLt }
    (c.mode = .off → exec (.edge ch dir) s = .next seen) ∧
    (c.mode = .stamp ∨ c.mode = .period ∨ c.mode = .ack → ¬ selected → exec (.edge ch dir) s = .next seen) ∧
    (c.mode = .stamp → selected →
      let logged := if c.policy = .all then
          seen.appendCapture
            { source := .channel ch, kind := .stamp, edge := dir == .rising, violation := false, overrun := false,
              tag := 0, timestamp := s.now, interval := none, extra := 0 }
        else seen
      exec (.edge ch dir) s = .next (if c.launchSource = .edge then logged.launch ch s.now else logged))

/-- A selected edge stamped t in PERIOD mode, with no expiry that it must follow (06 section 6.4.2): without a reference it
opens an interval, and launches with source EDGE; with one it measures t - reference, appends an INTERVAL record as the log
policy decides, makes t the reference with a clear mark and a fresh watch, and launches with source EDGE, or with source
VIOLATION on a violation found while the mark was clear. -/
def Obligations.PeriodEdgeMeasures : Prop :=
  ∀ (s : State) (ch : ChanNo) (dir : EdgeDir), s.tb.state = .running → (s.channel ch).mode = .period →
    ((s.channel ch).edge = .both ∨ ((s.channel ch).edge = .rise ∧ dir = .rising)
      ∨ ((s.channel ch).edge = .fall ∧ dir = .falling)) →
    (∀ d : Tick, (s.channel ch).watch = some d → 0 ≤ distance s.now d) →
    (∀ r : Tick, (s.channel ch).reference = some r → (s.now - r).toNat ≤ 2147483647) →
    let c := s.channel ch
    let seen : State := { s with pins := s.pins.set ch.val (dir == .rising) ch.isLt }
    let next : Channel :=
      { c with
        reference := some s.now
        watch := if c.sense = .longer ∧ c.limit ≠ 0 then some (s.now + c.limit) else none
        violationMark := false }
    (c.reference = none →
      let opened : State := { seen with channels := s.channels.set ch.val next ch.isLt }
      exec (.edge ch dir) s = .next (if c.launchSource = .edge then opened.launch ch s.now else opened)) ∧
    (∀ r : Tick, c.reference = some r →
      let interval := s.now - r
      let violates := c.limit ≠ 0 ∧ ((c.sense = .shorter ∧ interval.toNat < c.limit.toNat)
        ∨ (c.sense = .longer ∧ c.limit.toNat < interval.toNat))
      let flagged := violates ∨ c.violationMark = true
      let logged := if c.policy = .all ∨ (c.policy = .violations ∧ flagged) then
          seen.appendCapture
            { source := .channel ch, kind := .interval, edge := dir == .rising, violation := decide flagged,
              overrun := false, tag := 0, timestamp := s.now, interval := some interval, extra := 0 }
        else seen
      let opened : State := { logged with channels := s.channels.set ch.val next ch.isLt }
      exec (.edge ch dir) s = .next
        (if c.launchSource = .edge ∨ (violates ∧ c.violationMark = false) then opened.launch ch s.now else opened))

/-- Edges in WIDTH mode, with no expiry that they must follow (06 section 6.4.3): a start edge opens a measurement and launches
with source EDGE; a closing edge without a reference is ignored; with one it appends the INTERVAL record as the log policy
decides, ends the measurement, and launches only with source VIOLATION on a violation found while the mark was clear. -/
def Obligations.WidthEdgeMeasures : Prop :=
  ∀ (s : State) (ch : ChanNo) (dir : EdgeDir), s.tb.state = .running → (s.channel ch).mode = .width →
    (s.channel ch).edge ≠ .both →
    (∀ d : Tick, (s.channel ch).watch = some d → 0 ≤ distance s.now d) →
    (∀ r : Tick, (s.channel ch).reference = some r → (s.now - r).toNat ≤ 2147483647) →
    let c := s.channel ch
    let starts := (c.edge = .rise ∧ dir = .rising) ∨ (c.edge = .fall ∧ dir = .falling)
    let seen : State := { s with pins := s.pins.set ch.val (dir == .rising) ch.isLt }
    (starts →
      let opened : State :=
        { seen with
          channels := s.channels.set ch.val
            { c with
              reference := some s.now
              watch := if c.sense = .longer ∧ c.limit ≠ 0 then some (s.now + c.limit) else none
              violationMark := false } ch.isLt }
      exec (.edge ch dir) s = .next (if c.launchSource = .edge then opened.launch ch s.now else opened)) ∧
    (¬ starts → c.reference = none → exec (.edge ch dir) s = .next seen) ∧
    (∀ r : Tick, ¬ starts → c.reference = some r →
      let interval := s.now - r
      let violates := c.limit ≠ 0 ∧ ((c.sense = .shorter ∧ interval.toNat < c.limit.toNat)
        ∨ (c.sense = .longer ∧ c.limit.toNat < interval.toNat))
      let flagged := violates ∨ c.violationMark = true
      let logged := if c.policy = .all ∨ (c.policy = .violations ∧ flagged) then
          seen.appendCapture
            { source := .channel ch, kind := .interval, edge := dir == .rising, violation := decide flagged,
              overrun := false, tag := 0, timestamp := s.now, interval := some interval, extra := 0 }
        else seen
      let ended : State :=
        { logged with
          channels := s.channels.set ch.val
            { c with reference := none, watch := none, violationMark := false } ch.isLt }
      exec (.edge ch dir) s = .next
        (if c.launchSource = .violation ∧ violates ∧ c.violationMark = false then ended.launch ch s.now else ended))

/-- A selected edge in ACK mode (07 sections 7.2 and 7.4): without an ack claim it is a stray, which appends a STRAY record
under ALL or VIOLATIONS and changes nothing else; with one, for an ACTIVE STROBE, it appends an ACK record under ALL, withdraws
the END entry, makes the line INACTIVE, releases both claims, writes the ack latency and runs the continuation from the lead
due, and then the commits that a completion made due execute; with no commit waiting for the slot, none does.
The count of ticks beyond -2^31 is the model's own (log 10). -/
def Obligations.AckEdgeAnswersTheStrobe : Prop :=
  ∀ (s : State) (ch : ChanNo) (dir : EdgeDir), s.tb.state = .running → (s.channel ch).mode = .ack →
    ((s.channel ch).edge = .both ∨ ((s.channel ch).edge = .rise ∧ dir = .rising)
      ∨ ((s.channel ch).edge = .fall ∧ dir = .falling)) →
    let c := s.channel ch
    let seen : State := { s with pins := s.pins.set ch.val (dir == .rising) ch.isLt }
    let record := fun (kind : CaptureKind) (violation : Bool) =>
      { source := .channel ch, kind := kind, edge := dir == .rising, violation := violation, overrun := false, tag := 0,
        timestamp := s.now, interval := none, extra := 0 : Capture }
    (c.ackClaim = none →
      exec (.edge ch dir) s = .next
        (if c.policy = .all ∨ c.policy = .violations then seen.appendCapture (record .stray true) else seen)) ∧
    (∀ (n : SlotNo) (h : Held) (leadDue leadTime : Tick) (leadPast : Nat) (l : LineNo),
      c.ackClaim = some n → s.slot n = .active h leadDue leadTime leadPast → h.action.kind = .strobe →
      h.action.line = some l → h.action.channel = some ch →
      let logged := if c.policy = .all then seen.appendCapture (record .ack false) else seen
      let ended : State :=
        { logged with
          calendar := s.calendar.filter (fun e => e.slot != n)
          lines := s.lines.set l.val { s.line l with isActive := false, claim := none } l.isLt
          channels := s.channels.set ch.val { c with ackClaim := none } ch.isLt }
      let endPast := match s.calendar.find? (fun e => e.slot == n) with
        | none => 0
        | some e => e.pastFloor
      let behind := (if leadPast = 0 then (leadTime - leadDue).toNat else 2147483648 + leadPast)
        + (if endPast = 0 then (s.now - leadTime).toNat else (h.action.width.getD 0).toNat + 2147483648 + endPast)
      let u := ended.continuation n
        { h with ackLatency := BitVec.ofNat 16 (min 65535 (s.now - leadTime).toNat) } leadDue behind
      exec (.edge ch dir) s = .next u.runEndedCommits ∧ (s.NoCommitWaitsFor n → u.runEndedCommits = u))

/-- The expiries of a channel (06 section 6.5). A watch whose deadline the timebase has reached appends a WATCH record under
ALL or VIOLATIONS, sets the violation mark, becomes absent and, with source VIOLATION, launches the parked list at the
deadline; one not reached does nothing. A reference 2^31 - 1 ticks old is dropped with the mark cleared, after a watch
reached by then has expired; a younger one stays. An edge of a WIDTH channel, and a selected edge of a PERIOD channel, stamped after a
watch deadline or after the value at which the reference expires, follows that expiry (a watch deadline at that very edge's
value leaves the order open, and no watch of the part stands there once its reference has expired). The model's own readings:
such an edge carries out an expiry still waiting (log 6); a deadline is reached at distance 0 or less and a reference expired
at age 2^31 - 1 or more, and a REFERENCE_EXPIRY carries out a watch still waiting (log 7); an expiry not reached leaves the
state unchanged (log 2). -/
def Obligations.ChannelExpiries : Prop :=
  ∀ (s : State) (ch : ChanNo), s.tb.state = .running →
    let c := s.channel ch
    (c.watch = none → exec (.watchExpiry ch) s = .next s) ∧
    (∀ d : Tick, c.watch = some d → 0 < distance s.now d → exec (.watchExpiry ch) s = .next s) ∧
    (∀ d : Tick, c.watch = some d → distance s.now d ≤ 0 →
      let logged := if c.policy = .all ∨ c.policy = .violations then
          s.appendCapture
            { source := .channel ch, kind := .watch, edge := false, violation := true, overrun := false, tag := 0,
              timestamp := d, interval := some c.limit, extra := 0 }
        else s
      let marked : State :=
        { logged with
          channels := s.channels.set ch.val { c with violationMark := true, watch := none } ch.isLt }
      exec (.watchExpiry ch) s = .next (if c.launchSource = .violation then marked.launch ch d else marked)) ∧
    (c.reference = none → exec (.referenceExpiry ch) s = .next s) ∧
    (∀ r : Tick, c.reference = some r → (s.now - r).toNat < 2147483647 →
      exec (.referenceExpiry ch) s = .next s) ∧
    (∀ r : Tick, c.reference = some r → 2147483647 ≤ (s.now - r).toNat → c.watch = none →
      exec (.referenceExpiry ch) s = .next
        { s with
          channels := s.channels.set ch.val
            { c with reference := none, watch := none, violationMark := false } ch.isLt }) ∧
    (∀ (r d : Tick) (t : State), c.reference = some r → 2147483647 ≤ (s.now - r).toNat → c.watch = some d →
      distance s.now d ≤ 0 → exec (.watchExpiry ch) s = .next t →
      exec (.referenceExpiry ch) s = exec (.referenceExpiry ch) t) ∧
    (∀ dir : EdgeDir, c.mode = .width ∨ (c.mode = .period ∧
        (c.edge = .both ∨ (c.edge = .rise ∧ dir = .rising) ∨ (c.edge = .fall ∧ dir = .falling))) →
      (∀ (d : Tick) (t : State), c.watch = some d → distance s.now d < 0 → exec (.watchExpiry ch) s = .next t →
        exec (.edge ch dir) s = exec (.edge ch dir) t) ∧
      (∀ (r : Tick) (t : State), c.reference = some r → 2147483647 < (s.now - r).toNat →
        (∀ d : Tick, c.watch = some d → distance s.now d ≠ 0) → exec (.referenceExpiry ch) s = .next t →
        exec (.edge ch dir) s = exec (.edge ch dir) t))

/-! ### Releases -/

/-- The checks of an attempt refuse it with the first of EXPIRED, COLLIDED, ACKOFF and ACKBUSY that holds. At the release of
a due LEAD entry of a SCHEDULED slot, a refused attempt of a slot whose count is 1 completes it with the reason; any other is a
miss: remaining goes down unless the count is 0, missed goes up and stops at 255, a MISS record is appended with the LOG option,
and the continuation follows from the due time. Then the commits handed over at the end of the release execute; with no commit
waiting for the slot, none does (04 section 4.2, 03 section 3.5, 05 section 5.5).
The count of ticks beyond -2^31 is the model's own (log 10). -/
def Obligations.RefusedAttempt : Prop :=
  (∀ (s : State) (h : Held) (lateness : Nat),
    let expired := s.latenessLimit.toNat ≠ 0 ∧ s.latenessLimit.toNat < lateness
    let collided := ∃ l : LineNo, h.action.line = some l ∧ (s.line l).claim ≠ none
    let ackOff := h.action.kind = .strobe ∧ ∀ c : ChanNo, h.action.channel = some c → (s.channel c).mode ≠ .ack
    let ackBusy := h.action.kind = .strobe ∧
      ∃ c : ChanNo, h.action.channel = some c ∧ (s.channel c).mode = .ack ∧ (s.channel c).ackClaim ≠ none
    (expired → s.refusal h lateness = some .expired) ∧
    (¬ expired → collided → s.refusal h lateness = some .collided) ∧
    (¬ expired → ¬ collided → ackOff → s.refusal h lateness = some .ackOff) ∧
    (¬ expired → ¬ collided → ¬ ackOff → ackBusy → s.refusal h lateness = some .ackBusy) ∧
    (¬ expired → ¬ collided → ¬ ackOff → ¬ ackBusy → s.refusal h lateness = none)) ∧
  (∀ (s : State) (e : Entry) (rest : List Entry) (h : Held) (due : Tick) (reason : Status),
    s.tb.state = .running → s.calendar = e :: rest → e.distance s.now ≤ 0 → e.phase = .lead →
    s.slot e.slot = .scheduled h due → s.refusal h (e.lateness s.now) = some reason →
    let releases := fun u : State =>
      exec .leadRelease s = .next (u.runFiredCommits e.slot) ∧
      (s.NoCommitWaitsFor e.slot → u.runFiredCommits e.slot = u)
    let behind := if e.pastFloor = 0 then (s.now - e.due).toNat else 2147483648 + e.pastFloor
    let left := if h.action.count.toNat = 0 then h.remaining else h.remaining - 1
    let removed : State := { s with calendar := rest }
    (h.action.count.toNat = 1 →
      releases
        { removed with
          slots := s.slots.set e.slot.val (.complete { h with remaining := left } reason s.now) e.slot.isLt
          doneQueue := s.doneQueue ++ [e.slot] }) ∧
    (h.action.count.toNat ≠ 1 →
      let logged := if h.action.logOption then
          removed.appendCapture
            { source := .action e.slot, kind := .miss, edge := false, violation := false, overrun := false,
              tag := h.action.tag, timestamp := s.now, interval := none, extra := BitVec.ofNat 16 reason.code }
        else removed
      releases (logged.continuation e.slot
        { h with remaining := left, missed := if h.missed.toNat = 255 then h.missed else h.missed + 1 } e.due behind)))

/-- At the release of a due LEAD entry of a SCHEDULED SET, CLEAR, TOGGLE or NOTE, an attempt that no check refuses makes the
line ACTIVE, INACTIVE or inverted, or touches no line; counts fired, stopping at 65535; raises worst lateness to the
release's lateness, at most 65535; appends a FIRED record with the LOG option; and goes on to the continuation from the due
time; then the commits handed over at the end of the release execute, none with no commit waiting for the slot (04 sections
4.2, 4.3 and 4.10, 05 section 5.5).
The count of ticks beyond -2^31 is the model's own (log 10). -/
def Obligations.PerformedAttempt : Prop :=
  ∀ (s : State) (e : Entry) (rest : List Entry) (h : Held) (due : Tick),
    s.tb.state = .running → s.calendar = e :: rest → e.distance s.now ≤ 0 → e.phase = .lead →
    s.slot e.slot = .scheduled h due → s.refusal h (e.lateness s.now) = none →
    let releases := fun u : State =>
      exec .leadRelease s = .next (u.runFiredCommits e.slot) ∧
      (s.NoCommitWaitsFor e.slot → u.runFiredCommits e.slot = u)
    let behind := if e.pastFloor = 0 then (s.now - e.due).toNat else 2147483648 + e.pastFloor
    let late : Half := BitVec.ofNat 16 (min 65535 (e.lateness s.now))
    let counted : Held :=
      { h with
        remaining := if h.action.count.toNat = 0 then h.remaining else h.remaining - 1
        fired := if h.fired.toNat = 65535 then h.fired else h.fired + 1
        worstLateness := if h.worstLateness.toNat < late.toNat then late else h.worstLateness }
    let logged := fun (u : State) (edge : Bool) => if h.action.logOption then
        u.appendCapture
          { source := .action e.slot, kind := .fired, edge := edge, violation := false, overrun := false,
            tag := h.action.tag, timestamp := s.now, interval := none, extra := late }
      else u
    let driven := fun (l : LineNo) (isActive : Bool) =>
      { s with calendar := rest, lines := s.lines.set l.val { s.line l with isActive := isActive } l.isLt : State }
    (∀ l : LineNo, h.action.line = some l → h.action.kind = .set →
      releases ((logged (driven l true) true).continuation e.slot counted e.due behind)) ∧
    (∀ l : LineNo, h.action.line = some l → h.action.kind = .clear →
      releases ((logged (driven l false) false).continuation e.slot counted e.due behind)) ∧
    (∀ l : LineNo, h.action.line = some l → h.action.kind = .toggle →
      releases ((logged (driven l (!(s.line l).isActive)) (!(s.line l).isActive)).continuation
        e.slot counted e.due behind)) ∧
    (h.action.line = none → h.action.kind = .note →
      releases ((logged { s with calendar := rest } false).continuation e.slot counted e.due behind))

/-- At the release of a due LEAD entry of a SCHEDULED PULSE or STROBE, an attempt that no check refuses makes the line ACTIVE
and claimed by the slot, sets a STROBE's ack claim, makes the slot ACTIVE with its lead due and lead time, inserts an END
entry its width ahead, counts the firing and appends a FIRED record with the LOG option; then the commits handed over at the
end of the release execute, none with no commit waiting for the slot (04 section 4.3, 05 section 5.5).
The count of ticks beyond -2^31 is the model's own (log 10). -/
def Obligations.FiringBegins : Prop :=
  ∀ (s : State) (e : Entry) (rest : List Entry) (h : Held) (due : Tick) (l : LineNo) (width : Half),
    s.tb.state = .running → s.calendar = e :: rest → e.distance s.now ≤ 0 → e.phase = .lead →
    s.slot e.slot = .scheduled h due → s.refusal h (e.lateness s.now) = none →
    h.action.line = some l → h.action.width = some width →
    let releases := fun u : State =>
      exec .leadRelease s = .next (u.runFiredCommits e.slot) ∧
      (s.NoCommitWaitsFor e.slot → u.runFiredCommits e.slot = u)
    let late : Half := BitVec.ofNat 16 (min 65535 (e.lateness s.now))
    let counted : Held :=
      { h with
        remaining := if h.action.count.toNat = 0 then h.remaining else h.remaining - 1
        fired := if h.fired.toNat = 65535 then h.fired else h.fired + 1
        worstLateness := if h.worstLateness.toNat < late.toNat then late else h.worstLateness }
    let begun : State :=
      { s with
        slots := s.slots.set e.slot.val (.active counted e.due s.now e.pastFloor) e.slot.isLt
        calendar := insertEntry s.now ⟨e.slot, .trailing, s.now + BitVec.ofNat 32 width.toNat, 0⟩ rest
        lines := s.lines.set l.val { s.line l with isActive := true, claim := some e.slot } l.isLt }
    let logged := fun u : State => if h.action.logOption then
        u.appendCapture
          { source := .action e.slot, kind := .fired, edge := true, violation := false, overrun := false,
            tag := h.action.tag, timestamp := s.now, interval := none, extra := late }
      else u
    (h.action.kind = .pulse → releases (logged begun)) ∧
    (∀ c : ChanNo, h.action.kind = .strobe → h.action.channel = some c →
      releases (logged
        { begun with
          channels := s.channels.set c.val { s.channel c with ackClaim := some e.slot } c.isLt }))

/-- The release of a due END entry of an ACTIVE slot, however late: the trail of a PULSE makes the line INACTIVE and unclaimed
and goes on to the continuation from the lead due; the timeout of a STROBE also releases the ack claim and completes the slot
TIMEOUT now; then the commits that a completion made due execute, none with no commit waiting for the slot (04 section 4.5,
07 section 7.3, 05 section 5.5).
The count of ticks beyond -2^31 is the model's own (log 10). -/
def Obligations.TrailAndTimeout : Prop :=
  ∀ (s : State) (e : Entry) (rest : List Entry) (h : Held) (leadDue leadTime : Tick) (leadPast : Nat) (l : LineNo),
    s.tb.state = .running → s.calendar = e :: rest → e.distance s.now ≤ 0 → e.phase = .trailing →
    s.slot e.slot = .active h leadDue leadTime leadPast → h.action.line = some l →
    let behind := (if leadPast = 0 then (leadTime - leadDue).toNat else 2147483648 + leadPast)
      + (if e.pastFloor = 0 then (s.now - leadTime).toNat
        else (h.action.width.getD 0).toNat + 2147483648 + e.pastFloor)
    let ended : State :=
      { s with
        calendar := rest
        lines := s.lines.set l.val { s.line l with isActive := false, claim := none } l.isLt }
    let releases := fun u : State =>
      exec .endRelease s = .next u.runEndedCommits ∧ (s.NoCommitWaitsFor e.slot → u.runEndedCommits = u)
    (h.action.kind = .pulse → releases (ended.continuation e.slot h leadDue behind)) ∧
    (∀ c : ChanNo, h.action.kind = .strobe → h.action.channel = some c →
      releases
        { ended with
          channels := s.channels.set c.val { s.channel c with ackClaim := none } c.isLt
          slots := s.slots.set e.slot.val (.complete h .timeout s.now) e.slot.isLt
          doneQueue := s.doneQueue ++ [e.slot] })

/-- At the end of a LEAD release of slot s, whatever came of the attempt, the commits pending on s execute with cause
ANCHOR_FIRED, and those they make due with cause ANCHOR_ENDED, one at a time, each time the lowest-numbered group due, until
none is (05 sections 5.4 and 5.5). So every group that was PENDING on s is then EMPTY with its done flag set, the members of
its open list are SCHEDULED or PARKED with the release's now as time of placement, and with the replace flag its placed
generation is retired (`CommitDone`). -/
def Obligations.FiredAnchorRunsItsCommits : Prop :=
  (∀ (s : State) (n : SlotNo),
    let due := fun (g : GroupNo) (anchor : SlotNo) (replace : Bool) =>
      (s.group g).state = .pending anchor replace ∧ (anchor = n ∨ (s.slot anchor).isLive = false)
    ((∀ g anchor replace, ¬ due g anchor replace) → s.runFiredCommits n = s) ∧
    (∀ g anchor replace, due g anchor replace → (∀ k < g, ∀ a b, ¬ due k a b) →
      s.runFiredCommits n
        = (s.commitGroup g replace (if anchor = n then .anchorFired else .anchorEnded)).runFiredCommits n)) ∧
  (∀ (s : State) (e : Entry) (rest : List Entry) (h : Held) (due : Tick) (g : GroupNo) (replace : Bool),
    s.tb.state = .running → s.calendar = e :: rest → e.distance s.now ≤ 0 → e.phase = .lead →
    s.slot e.slot = .scheduled h due → (s.group g).state = .pending e.slot replace →
    ∃ t : State, exec .leadRelease s = .next t ∧
      t.group g = { state := .empty, openList := [], lastCause := .anchorFired, done := true } ∧
      (s.OpenListsHold → State.CommitDone s t g replace .anchorFired (some e.slot)))

/-! ### Laws that every step keeps -/

/-- Every step keeps the completion queue: it holds exactly the COMPLETE slots, each once (08 section 8.1). -/
def Obligations.StepKeepsTheCompletionQueue : Prop :=
  ∀ s t : State, s.QueueHolds → step s = .next t → t.QueueHolds

/-- Every step keeps the calendar's membership: a SCHEDULED slot has exactly one LEAD entry, at its due; an ACTIVE slot exactly
one END entry, at its lead time plus its width; no other slot has one (01 section 1.1, 03 sections 3.1 and 3.3). -/
def Obligations.StepKeepsTheCalendarEntries : Prop :=
  ∀ s t : State, s.CalendarHolds → step s = .next t → t.CalendarHolds

/-- Every step keeps the calendar ordered by distance, over insertions, withdrawals, releases and advances (03 section 3.1);
and every step keeps the model's own counts of the ticks by which an entry, or the lead due of an ACTIVE slot, lies beyond
-2^31, as true ones (log 10). -/
def Obligations.StepKeepsTheCalendarOrder : Prop :=
  (∀ s t : State, s.CalendarOrdered → step s = .next t → t.CalendarOrdered) ∧
  (∀ s t : State, s.CalendarHolds → s.PastFloorsHold → step s = .next t → t.PastFloorsHold)

/-- Every step keeps the actions well formed, each open list exactly the slots OPEN in its group, and each parked list exactly
the slots PARKED on its channel, each once (01 section 1.1, 05 section 5.2, 06 section 6.7). -/
def Obligations.StepKeepsTheWaitingLists : Prop :=
  (∀ s t : State, s.ActionsHold → step s = .next t → t.ActionsHold) ∧
  (∀ s t : State, s.OpenListsHold → step s = .next t → t.OpenListsHold) ∧
  (∀ s t : State, s.ActionsHold → s.ParkedListsHold → step s = .next t → t.ParkedListsHold)

/-- Every step keeps the claims: a line is claimed exactly by the ACTIVE slot that names it and is ACTIVE while claimed; a
channel's ack claim is held exactly by the ACTIVE STROBE that names it, and only in ACK mode (04 section 4.1, 07
section 7.1). -/
def Obligations.StepKeepsTheClaims : Prop :=
  (∀ s t : State, s.ClaimsHold → step s = .next t → t.ClaimsHold) ∧
  (∀ s t : State, s.AckClaimsHold → step s = .next t → t.AckClaimsHold)

/-- Every step leaves a group PENDING only while its anchor is SCHEDULED, PARKED or ACTIVE: an event that ends an anchor
executes or drops the commits pending on it (05 section 5.1). -/
def Obligations.StepKeepsAnchorsLive : Prop :=
  ∀ s t : State, s.AnchorsLive → step s = .next t → t.AnchorsLive

/-- Every step keeps the channels' measurement state: a reference only in PERIOD and WIDTH mode, a watch only at the reference
plus a nonzero limit with sense LONGER, a violation mark only with a reference and no watch (06 sections 6.4 and 6.5). -/
def Obligations.StepKeepsTheMeasurements : Prop :=
  ∀ s t : State, s.MeasurementsHold → step s = .next t → t.MeasurementsHold

/-- Every step keeps the counts in range: at most 32 records in the log and a threshold of at most 32; a prescale of 1 to 256
with its count below it while RUNNING; CMD clear while the command unit is busy; and remaining at most a nonzero count, and 0
there only in an ACTIVE or COMPLETE slot; and, while /RESET is asserted, every block at its reset values (08 sections 8.2 to
8.4, 02 section 2.1, 01 section 1.2, 09 section 9.8; that no advance is due while STOPPED is about the model's own mark, log 4,
and that no command but HARDWARE_RESET, which releases it, changes the level of /RESET is the model's choice, log 9). -/
def Obligations.StepKeepsTheCountsInRange : Prop :=
  (∀ s t : State, s.ReportingInBounds → step s = .next t → t.ReportingInBounds) ∧
  (∀ s t : State, s.TimebaseInRange → step s = .next t → t.TimebaseInRange) ∧
  (∀ s t : State, s.CmdClearWhileBusy → step s = .next t → t.CmdClearWhileBusy) ∧
  (∀ s t : State, s.RemainingHolds → step s = .next t → t.RemainingHolds) ∧
  (∀ s t : State, s.ResetHolds → step s = .next t → t.ResetHolds)
end

