-- ==== Sys2Proof/Laws/State.lean ====
section
/-! SUPPORT. One lemma per field for each named update of the state, and reading a record after a record is written. A
later proof rewrites with these and never unfolds a record update. -/

namespace Sys2Proof.Machine


/-! ### State.setSlot -/

@[simp] theorem State.setSlot_tb (s : State) (n : SlotNo) (x : Slot) : (s.setSlot n x).tb = s.tb := rfl
@[simp] theorem State.setSlot_slots (s : State) (n : SlotNo) (x : Slot) :
    (s.setSlot n x).slots = s.slots.set n.val x n.isLt := rfl
@[simp] theorem State.setSlot_calendar (s : State) (n : SlotNo) (x : Slot) :
    (s.setSlot n x).calendar = s.calendar := rfl
@[simp] theorem State.setSlot_latenessLimit (s : State) (n : SlotNo) (x : Slot) :
    (s.setSlot n x).latenessLimit = s.latenessLimit := rfl
@[simp] theorem State.setSlot_lines (s : State) (n : SlotNo) (x : Slot) : (s.setSlot n x).lines = s.lines := rfl
@[simp] theorem State.setSlot_channels (s : State) (n : SlotNo) (x : Slot) :
    (s.setSlot n x).channels = s.channels := rfl
@[simp] theorem State.setSlot_pins (s : State) (n : SlotNo) (x : Slot) : (s.setSlot n x).pins = s.pins := rfl
@[simp] theorem State.setSlot_resetPin (s : State) (n : SlotNo) (x : Slot) :
    (s.setSlot n x).resetPin = s.resetPin := rfl
@[simp] theorem State.setSlot_groups (s : State) (n : SlotNo) (x : Slot) : (s.setSlot n x).groups = s.groups := rfl
@[simp] theorem State.setSlot_doneQueue (s : State) (n : SlotNo) (x : Slot) :
    (s.setSlot n x).doneQueue = s.doneQueue := rfl
@[simp] theorem State.setSlot_log (s : State) (n : SlotNo) (x : Slot) : (s.setSlot n x).log = s.log := rfl
@[simp] theorem State.setSlot_logThreshold (s : State) (n : SlotNo) (x : Slot) :
    (s.setSlot n x).logThreshold = s.logThreshold := rfl
@[simp] theorem State.setSlot_causeEnables (s : State) (n : SlotNo) (x : Slot) :
    (s.setSlot n x).causeEnables = s.causeEnables := rfl
@[simp] theorem State.setSlot_cmdCause (s : State) (n : SlotNo) (x : Slot) :
    (s.setSlot n x).cmdCause = s.cmdCause := rfl
@[simp] theorem State.setSlot_cu (s : State) (n : SlotNo) (x : Slot) : (s.setSlot n x).cu = s.cu := rfl
@[simp] theorem State.setSlot_busData (s : State) (n : SlotNo) (x : Slot) :
    (s.setSlot n x).busData = s.busData := rfl
@[simp] theorem State.setSlot_pending (s : State) (n : SlotNo) (x : Slot) :
    (s.setSlot n x).pending = s.pending := rfl
@[simp] theorem State.setSlot_now (s : State) (n : SlotNo) (x : Slot) : (s.setSlot n x).now = s.now := rfl
@[simp] theorem State.setSlot_line (s : State) (n : SlotNo) (x : Slot) (l' : LineNo) :
    (s.setSlot n x).line l' = s.line l' := rfl
@[simp] theorem State.setSlot_channel (s : State) (n : SlotNo) (x : Slot) (c' : ChanNo) :
    (s.setSlot n x).channel c' = s.channel c' := rfl
@[simp] theorem State.setSlot_group (s : State) (n : SlotNo) (x : Slot) (g' : GroupNo) :
    (s.setSlot n x).group g' = s.group g' := rfl

/-! ### State.setLine -/

@[simp] theorem State.setLine_tb (s : State) (l : LineNo) (x : Line) : (s.setLine l x).tb = s.tb := rfl
@[simp] theorem State.setLine_slots (s : State) (l : LineNo) (x : Line) : (s.setLine l x).slots = s.slots := rfl
@[simp] theorem State.setLine_calendar (s : State) (l : LineNo) (x : Line) :
    (s.setLine l x).calendar = s.calendar := rfl
@[simp] theorem State.setLine_latenessLimit (s : State) (l : LineNo) (x : Line) :
    (s.setLine l x).latenessLimit = s.latenessLimit := rfl
@[simp] theorem State.setLine_lines (s : State) (l : LineNo) (x : Line) :
    (s.setLine l x).lines = s.lines.set l.val x l.isLt := rfl
@[simp] theorem State.setLine_channels (s : State) (l : LineNo) (x : Line) :
    (s.setLine l x).channels = s.channels := rfl
@[simp] theorem State.setLine_pins (s : State) (l : LineNo) (x : Line) : (s.setLine l x).pins = s.pins := rfl
@[simp] theorem State.setLine_resetPin (s : State) (l : LineNo) (x : Line) :
    (s.setLine l x).resetPin = s.resetPin := rfl
@[simp] theorem State.setLine_groups (s : State) (l : LineNo) (x : Line) : (s.setLine l x).groups = s.groups := rfl
@[simp] theorem State.setLine_doneQueue (s : State) (l : LineNo) (x : Line) :
    (s.setLine l x).doneQueue = s.doneQueue := rfl
@[simp] theorem State.setLine_log (s : State) (l : LineNo) (x : Line) : (s.setLine l x).log = s.log := rfl
@[simp] theorem State.setLine_logThreshold (s : State) (l : LineNo) (x : Line) :
    (s.setLine l x).logThreshold = s.logThreshold := rfl
@[simp] theorem State.setLine_causeEnables (s : State) (l : LineNo) (x : Line) :
    (s.setLine l x).causeEnables = s.causeEnables := rfl
@[simp] theorem State.setLine_cmdCause (s : State) (l : LineNo) (x : Line) :
    (s.setLine l x).cmdCause = s.cmdCause := rfl
@[simp] theorem State.setLine_cu (s : State) (l : LineNo) (x : Line) : (s.setLine l x).cu = s.cu := rfl
@[simp] theorem State.setLine_busData (s : State) (l : LineNo) (x : Line) :
    (s.setLine l x).busData = s.busData := rfl
@[simp] theorem State.setLine_pending (s : State) (l : LineNo) (x : Line) :
    (s.setLine l x).pending = s.pending := rfl
@[simp] theorem State.setLine_now (s : State) (l : LineNo) (x : Line) : (s.setLine l x).now = s.now := rfl
@[simp] theorem State.setLine_slot (s : State) (l : LineNo) (x : Line) (m : SlotNo) :
    (s.setLine l x).slot m = s.slot m := rfl
@[simp] theorem State.setLine_channel (s : State) (l : LineNo) (x : Line) (c' : ChanNo) :
    (s.setLine l x).channel c' = s.channel c' := rfl
@[simp] theorem State.setLine_group (s : State) (l : LineNo) (x : Line) (g' : GroupNo) :
    (s.setLine l x).group g' = s.group g' := rfl

/-! ### State.setChannel -/

@[simp] theorem State.setChannel_tb (s : State) (c : ChanNo) (x : Channel) : (s.setChannel c x).tb = s.tb := rfl
@[simp] theorem State.setChannel_slots (s : State) (c : ChanNo) (x : Channel) :
    (s.setChannel c x).slots = s.slots := rfl
@[simp] theorem State.setChannel_calendar (s : State) (c : ChanNo) (x : Channel) :
    (s.setChannel c x).calendar = s.calendar := rfl
@[simp] theorem State.setChannel_latenessLimit (s : State) (c : ChanNo) (x : Channel) :
    (s.setChannel c x).latenessLimit = s.latenessLimit := rfl
@[simp] theorem State.setChannel_lines (s : State) (c : ChanNo) (x : Channel) :
    (s.setChannel c x).lines = s.lines := rfl
@[simp] theorem State.setChannel_channels (s : State) (c : ChanNo) (x : Channel) :
    (s.setChannel c x).channels = s.channels.set c.val x c.isLt := rfl
@[simp] theorem State.setChannel_pins (s : State) (c : ChanNo) (x : Channel) :
    (s.setChannel c x).pins = s.pins := rfl
@[simp] theorem State.setChannel_resetPin (s : State) (c : ChanNo) (x : Channel) :
    (s.setChannel c x).resetPin = s.resetPin := rfl
@[simp] theorem State.setChannel_groups (s : State) (c : ChanNo) (x : Channel) :
    (s.setChannel c x).groups = s.groups := rfl
@[simp] theorem State.setChannel_doneQueue (s : State) (c : ChanNo) (x : Channel) :
    (s.setChannel c x).doneQueue = s.doneQueue := rfl
@[simp] theorem State.setChannel_log (s : State) (c : ChanNo) (x : Channel) : (s.setChannel c x).log = s.log := rfl
@[simp] theorem State.setChannel_logThreshold (s : State) (c : ChanNo) (x : Channel) :
    (s.setChannel c x).logThreshold = s.logThreshold := rfl
@[simp] theorem State.setChannel_causeEnables (s : State) (c : ChanNo) (x : Channel) :
    (s.setChannel c x).causeEnables = s.causeEnables := rfl
@[simp] theorem State.setChannel_cmdCause (s : State) (c : ChanNo) (x : Channel) :
    (s.setChannel c x).cmdCause = s.cmdCause := rfl
@[simp] theorem State.setChannel_cu (s : State) (c : ChanNo) (x : Channel) : (s.setChannel c x).cu = s.cu := rfl
@[simp] theorem State.setChannel_busData (s : State) (c : ChanNo) (x : Channel) :
    (s.setChannel c x).busData = s.busData := rfl
@[simp] theorem State.setChannel_pending (s : State) (c : ChanNo) (x : Channel) :
    (s.setChannel c x).pending = s.pending := rfl
@[simp] theorem State.setChannel_now (s : State) (c : ChanNo) (x : Channel) : (s.setChannel c x).now = s.now := rfl
@[simp] theorem State.setChannel_slot (s : State) (c : ChanNo) (x : Channel) (m : SlotNo) :
    (s.setChannel c x).slot m = s.slot m := rfl
@[simp] theorem State.setChannel_line (s : State) (c : ChanNo) (x : Channel) (l' : LineNo) :
    (s.setChannel c x).line l' = s.line l' := rfl
@[simp] theorem State.setChannel_group (s : State) (c : ChanNo) (x : Channel) (g' : GroupNo) :
    (s.setChannel c x).group g' = s.group g' := rfl

/-! ### State.setGroup -/

@[simp] theorem State.setGroup_tb (s : State) (g : GroupNo) (x : Group) : (s.setGroup g x).tb = s.tb := rfl
@[simp] theorem State.setGroup_slots (s : State) (g : GroupNo) (x : Group) : (s.setGroup g x).slots = s.slots := rfl
@[simp] theorem State.setGroup_calendar (s : State) (g : GroupNo) (x : Group) :
    (s.setGroup g x).calendar = s.calendar := rfl
@[simp] theorem State.setGroup_latenessLimit (s : State) (g : GroupNo) (x : Group) :
    (s.setGroup g x).latenessLimit = s.latenessLimit := rfl
@[simp] theorem State.setGroup_lines (s : State) (g : GroupNo) (x : Group) : (s.setGroup g x).lines = s.lines := rfl
@[simp] theorem State.setGroup_channels (s : State) (g : GroupNo) (x : Group) :
    (s.setGroup g x).channels = s.channels := rfl
@[simp] theorem State.setGroup_pins (s : State) (g : GroupNo) (x : Group) : (s.setGroup g x).pins = s.pins := rfl
@[simp] theorem State.setGroup_resetPin (s : State) (g : GroupNo) (x : Group) :
    (s.setGroup g x).resetPin = s.resetPin := rfl
@[simp] theorem State.setGroup_groups (s : State) (g : GroupNo) (x : Group) :
    (s.setGroup g x).groups = s.groups.set g.val x g.isLt := rfl
@[simp] theorem State.setGroup_doneQueue (s : State) (g : GroupNo) (x : Group) :
    (s.setGroup g x).doneQueue = s.doneQueue := rfl
@[simp] theorem State.setGroup_log (s : State) (g : GroupNo) (x : Group) : (s.setGroup g x).log = s.log := rfl
@[simp] theorem State.setGroup_logThreshold (s : State) (g : GroupNo) (x : Group) :
    (s.setGroup g x).logThreshold = s.logThreshold := rfl
@[simp] theorem State.setGroup_causeEnables (s : State) (g : GroupNo) (x : Group) :
    (s.setGroup g x).causeEnables = s.causeEnables := rfl
@[simp] theorem State.setGroup_cmdCause (s : State) (g : GroupNo) (x : Group) :
    (s.setGroup g x).cmdCause = s.cmdCause := rfl
@[simp] theorem State.setGroup_cu (s : State) (g : GroupNo) (x : Group) : (s.setGroup g x).cu = s.cu := rfl
@[simp] theorem State.setGroup_busData (s : State) (g : GroupNo) (x : Group) :
    (s.setGroup g x).busData = s.busData := rfl
@[simp] theorem State.setGroup_pending (s : State) (g : GroupNo) (x : Group) :
    (s.setGroup g x).pending = s.pending := rfl
@[simp] theorem State.setGroup_now (s : State) (g : GroupNo) (x : Group) : (s.setGroup g x).now = s.now := rfl
@[simp] theorem State.setGroup_slot (s : State) (g : GroupNo) (x : Group) (m : SlotNo) :
    (s.setGroup g x).slot m = s.slot m := rfl
@[simp] theorem State.setGroup_line (s : State) (g : GroupNo) (x : Group) (l' : LineNo) :
    (s.setGroup g x).line l' = s.line l' := rfl
@[simp] theorem State.setGroup_channel (s : State) (g : GroupNo) (x : Group) (c' : ChanNo) :
    (s.setGroup g x).channel c' = s.channel c' := rfl

/-! ### State.setCalendar -/

@[simp] theorem State.setCalendar_tb (s : State) (x : List Entry) : (s.setCalendar x).tb = s.tb := rfl
@[simp] theorem State.setCalendar_slots (s : State) (x : List Entry) : (s.setCalendar x).slots = s.slots := rfl
@[simp] theorem State.setCalendar_calendar (s : State) (x : List Entry) : (s.setCalendar x).calendar = x := rfl
@[simp] theorem State.setCalendar_latenessLimit (s : State) (x : List Entry) :
    (s.setCalendar x).latenessLimit = s.latenessLimit := rfl
@[simp] theorem State.setCalendar_lines (s : State) (x : List Entry) : (s.setCalendar x).lines = s.lines := rfl
@[simp] theorem State.setCalendar_channels (s : State) (x : List Entry) :
    (s.setCalendar x).channels = s.channels := rfl
@[simp] theorem State.setCalendar_pins (s : State) (x : List Entry) : (s.setCalendar x).pins = s.pins := rfl
@[simp] theorem State.setCalendar_resetPin (s : State) (x : List Entry) :
    (s.setCalendar x).resetPin = s.resetPin := rfl
@[simp] theorem State.setCalendar_groups (s : State) (x : List Entry) : (s.setCalendar x).groups = s.groups := rfl
@[simp] theorem State.setCalendar_doneQueue (s : State) (x : List Entry) :
    (s.setCalendar x).doneQueue = s.doneQueue := rfl
@[simp] theorem State.setCalendar_log (s : State) (x : List Entry) : (s.setCalendar x).log = s.log := rfl
@[simp] theorem State.setCalendar_logThreshold (s : State) (x : List Entry) :
    (s.setCalendar x).logThreshold = s.logThreshold := rfl
@[simp] theorem State.setCalendar_causeEnables (s : State) (x : List Entry) :
    (s.setCalendar x).causeEnables = s.causeEnables := rfl
@[simp] theorem State.setCalendar_cmdCause (s : State) (x : List Entry) :
    (s.setCalendar x).cmdCause = s.cmdCause := rfl
@[simp] theorem State.setCalendar_cu (s : State) (x : List Entry) : (s.setCalendar x).cu = s.cu := rfl
@[simp] theorem State.setCalendar_busData (s : State) (x : List Entry) : (s.setCalendar x).busData = s.busData := rfl
@[simp] theorem State.setCalendar_pending (s : State) (x : List Entry) : (s.setCalendar x).pending = s.pending := rfl
@[simp] theorem State.setCalendar_now (s : State) (x : List Entry) : (s.setCalendar x).now = s.now := rfl
@[simp] theorem State.setCalendar_slot (s : State) (x : List Entry) (m : SlotNo) :
    (s.setCalendar x).slot m = s.slot m := rfl
@[simp] theorem State.setCalendar_line (s : State) (x : List Entry) (l' : LineNo) :
    (s.setCalendar x).line l' = s.line l' := rfl
@[simp] theorem State.setCalendar_channel (s : State) (x : List Entry) (c' : ChanNo) :
    (s.setCalendar x).channel c' = s.channel c' := rfl
@[simp] theorem State.setCalendar_group (s : State) (x : List Entry) (g' : GroupNo) :
    (s.setCalendar x).group g' = s.group g' := rfl

/-! ### State.setTimebase -/

@[simp] theorem State.setTimebase_tb (s : State) (x : Timebase) : (s.setTimebase x).tb = x := rfl
@[simp] theorem State.setTimebase_slots (s : State) (x : Timebase) : (s.setTimebase x).slots = s.slots := rfl
@[simp] theorem State.setTimebase_calendar (s : State) (x : Timebase) :
    (s.setTimebase x).calendar = s.calendar := rfl
@[simp] theorem State.setTimebase_latenessLimit (s : State) (x : Timebase) :
    (s.setTimebase x).latenessLimit = s.latenessLimit := rfl
@[simp] theorem State.setTimebase_lines (s : State) (x : Timebase) : (s.setTimebase x).lines = s.lines := rfl
@[simp] theorem State.setTimebase_channels (s : State) (x : Timebase) :
    (s.setTimebase x).channels = s.channels := rfl
@[simp] theorem State.setTimebase_pins (s : State) (x : Timebase) : (s.setTimebase x).pins = s.pins := rfl
@[simp] theorem State.setTimebase_resetPin (s : State) (x : Timebase) :
    (s.setTimebase x).resetPin = s.resetPin := rfl
@[simp] theorem State.setTimebase_groups (s : State) (x : Timebase) : (s.setTimebase x).groups = s.groups := rfl
@[simp] theorem State.setTimebase_doneQueue (s : State) (x : Timebase) :
    (s.setTimebase x).doneQueue = s.doneQueue := rfl
@[simp] theorem State.setTimebase_log (s : State) (x : Timebase) : (s.setTimebase x).log = s.log := rfl
@[simp] theorem State.setTimebase_logThreshold (s : State) (x : Timebase) :
    (s.setTimebase x).logThreshold = s.logThreshold := rfl
@[simp] theorem State.setTimebase_causeEnables (s : State) (x : Timebase) :
    (s.setTimebase x).causeEnables = s.causeEnables := rfl
@[simp] theorem State.setTimebase_cmdCause (s : State) (x : Timebase) :
    (s.setTimebase x).cmdCause = s.cmdCause := rfl
@[simp] theorem State.setTimebase_cu (s : State) (x : Timebase) : (s.setTimebase x).cu = s.cu := rfl
@[simp] theorem State.setTimebase_busData (s : State) (x : Timebase) : (s.setTimebase x).busData = s.busData := rfl
@[simp] theorem State.setTimebase_pending (s : State) (x : Timebase) : (s.setTimebase x).pending = s.pending := rfl
@[simp] theorem State.setTimebase_slot (s : State) (x : Timebase) (m : SlotNo) :
    (s.setTimebase x).slot m = s.slot m := rfl
@[simp] theorem State.setTimebase_line (s : State) (x : Timebase) (l' : LineNo) :
    (s.setTimebase x).line l' = s.line l' := rfl
@[simp] theorem State.setTimebase_channel (s : State) (x : Timebase) (c' : ChanNo) :
    (s.setTimebase x).channel c' = s.channel c' := rfl
@[simp] theorem State.setTimebase_group (s : State) (x : Timebase) (g' : GroupNo) :
    (s.setTimebase x).group g' = s.group g' := rfl

/-! ### State.setCommandUnit -/

@[simp] theorem State.setCommandUnit_tb (s : State) (x : CommandUnit) : (s.setCommandUnit x).tb = s.tb := rfl
@[simp] theorem State.setCommandUnit_slots (s : State) (x : CommandUnit) :
    (s.setCommandUnit x).slots = s.slots := rfl
@[simp] theorem State.setCommandUnit_calendar (s : State) (x : CommandUnit) :
    (s.setCommandUnit x).calendar = s.calendar := rfl
@[simp] theorem State.setCommandUnit_latenessLimit (s : State) (x : CommandUnit) :
    (s.setCommandUnit x).latenessLimit = s.latenessLimit := rfl
@[simp] theorem State.setCommandUnit_lines (s : State) (x : CommandUnit) :
    (s.setCommandUnit x).lines = s.lines := rfl
@[simp] theorem State.setCommandUnit_channels (s : State) (x : CommandUnit) :
    (s.setCommandUnit x).channels = s.channels := rfl
@[simp] theorem State.setCommandUnit_pins (s : State) (x : CommandUnit) : (s.setCommandUnit x).pins = s.pins := rfl
@[simp] theorem State.setCommandUnit_resetPin (s : State) (x : CommandUnit) :
    (s.setCommandUnit x).resetPin = s.resetPin := rfl
@[simp] theorem State.setCommandUnit_groups (s : State) (x : CommandUnit) :
    (s.setCommandUnit x).groups = s.groups := rfl
@[simp] theorem State.setCommandUnit_doneQueue (s : State) (x : CommandUnit) :
    (s.setCommandUnit x).doneQueue = s.doneQueue := rfl
@[simp] theorem State.setCommandUnit_log (s : State) (x : CommandUnit) : (s.setCommandUnit x).log = s.log := rfl
@[simp] theorem State.setCommandUnit_logThreshold (s : State) (x : CommandUnit) :
    (s.setCommandUnit x).logThreshold = s.logThreshold := rfl
@[simp] theorem State.setCommandUnit_causeEnables (s : State) (x : CommandUnit) :
    (s.setCommandUnit x).causeEnables = s.causeEnables := rfl
@[simp] theorem State.setCommandUnit_cmdCause (s : State) (x : CommandUnit) :
    (s.setCommandUnit x).cmdCause = s.cmdCause := rfl
@[simp] theorem State.setCommandUnit_cu (s : State) (x : CommandUnit) : (s.setCommandUnit x).cu = x := rfl
@[simp] theorem State.setCommandUnit_busData (s : State) (x : CommandUnit) :
    (s.setCommandUnit x).busData = s.busData := rfl
@[simp] theorem State.setCommandUnit_pending (s : State) (x : CommandUnit) :
    (s.setCommandUnit x).pending = s.pending := rfl
@[simp] theorem State.setCommandUnit_now (s : State) (x : CommandUnit) : (s.setCommandUnit x).now = s.now := rfl
@[simp] theorem State.setCommandUnit_slot (s : State) (x : CommandUnit) (m : SlotNo) :
    (s.setCommandUnit x).slot m = s.slot m := rfl
@[simp] theorem State.setCommandUnit_line (s : State) (x : CommandUnit) (l' : LineNo) :
    (s.setCommandUnit x).line l' = s.line l' := rfl
@[simp] theorem State.setCommandUnit_channel (s : State) (x : CommandUnit) (c' : ChanNo) :
    (s.setCommandUnit x).channel c' = s.channel c' := rfl
@[simp] theorem State.setCommandUnit_group (s : State) (x : CommandUnit) (g' : GroupNo) :
    (s.setCommandUnit x).group g' = s.group g' := rfl

/-! ### State.setLog -/

@[simp] theorem State.setLog_tb (s : State) (x : List Capture) : (s.setLog x).tb = s.tb := rfl
@[simp] theorem State.setLog_slots (s : State) (x : List Capture) : (s.setLog x).slots = s.slots := rfl
@[simp] theorem State.setLog_calendar (s : State) (x : List Capture) : (s.setLog x).calendar = s.calendar := rfl
@[simp] theorem State.setLog_latenessLimit (s : State) (x : List Capture) :
    (s.setLog x).latenessLimit = s.latenessLimit := rfl
@[simp] theorem State.setLog_lines (s : State) (x : List Capture) : (s.setLog x).lines = s.lines := rfl
@[simp] theorem State.setLog_channels (s : State) (x : List Capture) : (s.setLog x).channels = s.channels := rfl
@[simp] theorem State.setLog_pins (s : State) (x : List Capture) : (s.setLog x).pins = s.pins := rfl
@[simp] theorem State.setLog_resetPin (s : State) (x : List Capture) : (s.setLog x).resetPin = s.resetPin := rfl
@[simp] theorem State.setLog_groups (s : State) (x : List Capture) : (s.setLog x).groups = s.groups := rfl
@[simp] theorem State.setLog_doneQueue (s : State) (x : List Capture) : (s.setLog x).doneQueue = s.doneQueue := rfl
@[simp] theorem State.setLog_log (s : State) (x : List Capture) : (s.setLog x).log = x := rfl
@[simp] theorem State.setLog_logThreshold (s : State) (x : List Capture) :
    (s.setLog x).logThreshold = s.logThreshold := rfl
@[simp] theorem State.setLog_causeEnables (s : State) (x : List Capture) :
    (s.setLog x).causeEnables = s.causeEnables := rfl
@[simp] theorem State.setLog_cmdCause (s : State) (x : List Capture) : (s.setLog x).cmdCause = s.cmdCause := rfl
@[simp] theorem State.setLog_cu (s : State) (x : List Capture) : (s.setLog x).cu = s.cu := rfl
@[simp] theorem State.setLog_busData (s : State) (x : List Capture) : (s.setLog x).busData = s.busData := rfl
@[simp] theorem State.setLog_pending (s : State) (x : List Capture) : (s.setLog x).pending = s.pending := rfl
@[simp] theorem State.setLog_now (s : State) (x : List Capture) : (s.setLog x).now = s.now := rfl
@[simp] theorem State.setLog_slot (s : State) (x : List Capture) (m : SlotNo) : (s.setLog x).slot m = s.slot m := rfl
@[simp] theorem State.setLog_line (s : State) (x : List Capture) (l' : LineNo) :
    (s.setLog x).line l' = s.line l' := rfl
@[simp] theorem State.setLog_channel (s : State) (x : List Capture) (c' : ChanNo) :
    (s.setLog x).channel c' = s.channel c' := rfl
@[simp] theorem State.setLog_group (s : State) (x : List Capture) (g' : GroupNo) :
    (s.setLog x).group g' = s.group g' := rfl

/-! ### State.insert -/

@[simp] theorem State.insert_tb (s : State) (n : SlotNo) (p : Phase) (due : Tick) :
    (s.insert n p due).tb = s.tb := rfl
@[simp] theorem State.insert_slots (s : State) (n : SlotNo) (p : Phase) (due : Tick) :
    (s.insert n p due).slots = s.slots := rfl
@[simp] theorem State.insert_calendar (s : State) (n : SlotNo) (p : Phase) (due : Tick) :
    (s.insert n p due).calendar = insertEntry s.now ⟨n, p, due, 0⟩ s.calendar := rfl
@[simp] theorem State.insert_latenessLimit (s : State) (n : SlotNo) (p : Phase) (due : Tick) :
    (s.insert n p due).latenessLimit = s.latenessLimit := rfl
@[simp] theorem State.insert_lines (s : State) (n : SlotNo) (p : Phase) (due : Tick) :
    (s.insert n p due).lines = s.lines := rfl
@[simp] theorem State.insert_channels (s : State) (n : SlotNo) (p : Phase) (due : Tick) :
    (s.insert n p due).channels = s.channels := rfl
@[simp] theorem State.insert_pins (s : State) (n : SlotNo) (p : Phase) (due : Tick) :
    (s.insert n p due).pins = s.pins := rfl
@[simp] theorem State.insert_resetPin (s : State) (n : SlotNo) (p : Phase) (due : Tick) :
    (s.insert n p due).resetPin = s.resetPin := rfl
@[simp] theorem State.insert_groups (s : State) (n : SlotNo) (p : Phase) (due : Tick) :
    (s.insert n p due).groups = s.groups := rfl
@[simp] theorem State.insert_doneQueue (s : State) (n : SlotNo) (p : Phase) (due : Tick) :
    (s.insert n p due).doneQueue = s.doneQueue := rfl
@[simp] theorem State.insert_log (s : State) (n : SlotNo) (p : Phase) (due : Tick) :
    (s.insert n p due).log = s.log := rfl
@[simp] theorem State.insert_logThreshold (s : State) (n : SlotNo) (p : Phase) (due : Tick) :
    (s.insert n p due).logThreshold = s.logThreshold := rfl
@[simp] theorem State.insert_causeEnables (s : State) (n : SlotNo) (p : Phase) (due : Tick) :
    (s.insert n p due).causeEnables = s.causeEnables := rfl
@[simp] theorem State.insert_cmdCause (s : State) (n : SlotNo) (p : Phase) (due : Tick) :
    (s.insert n p due).cmdCause = s.cmdCause := rfl
@[simp] theorem State.insert_cu (s : State) (n : SlotNo) (p : Phase) (due : Tick) :
    (s.insert n p due).cu = s.cu := rfl
@[simp] theorem State.insert_busData (s : State) (n : SlotNo) (p : Phase) (due : Tick) :
    (s.insert n p due).busData = s.busData := rfl
@[simp] theorem State.insert_pending (s : State) (n : SlotNo) (p : Phase) (due : Tick) :
    (s.insert n p due).pending = s.pending := rfl
@[simp] theorem State.insert_now (s : State) (n : SlotNo) (p : Phase) (due : Tick) :
    (s.insert n p due).now = s.now := rfl
@[simp] theorem State.insert_slot (s : State) (n : SlotNo) (p : Phase) (due : Tick) (m : SlotNo) :
    (s.insert n p due).slot m = s.slot m := rfl
@[simp] theorem State.insert_line (s : State) (n : SlotNo) (p : Phase) (due : Tick) (l' : LineNo) :
    (s.insert n p due).line l' = s.line l' := rfl
@[simp] theorem State.insert_channel (s : State) (n : SlotNo) (p : Phase) (due : Tick) (c' : ChanNo) :
    (s.insert n p due).channel c' = s.channel c' := rfl
@[simp] theorem State.insert_group (s : State) (n : SlotNo) (p : Phase) (due : Tick) (g' : GroupNo) :
    (s.insert n p due).group g' = s.group g' := rfl

/-! ### State.insertPast -/

@[simp] theorem State.insertPast_tb (s : State) (n : SlotNo) (p : Phase) (due : Tick) (k : Nat) :
    (s.insertPast n p due k).tb = s.tb := rfl
@[simp] theorem State.insertPast_slots (s : State) (n : SlotNo) (p : Phase) (due : Tick) (k : Nat) :
    (s.insertPast n p due k).slots = s.slots := rfl
@[simp] theorem State.insertPast_calendar (s : State) (n : SlotNo) (p : Phase) (due : Tick) (k : Nat) :
    (s.insertPast n p due k).calendar = insertEntry s.now ⟨n, p, due, k⟩ s.calendar := rfl
@[simp] theorem State.insertPast_latenessLimit (s : State) (n : SlotNo) (p : Phase) (due : Tick) (k : Nat) :
    (s.insertPast n p due k).latenessLimit = s.latenessLimit := rfl
@[simp] theorem State.insertPast_lines (s : State) (n : SlotNo) (p : Phase) (due : Tick) (k : Nat) :
    (s.insertPast n p due k).lines = s.lines := rfl
@[simp] theorem State.insertPast_channels (s : State) (n : SlotNo) (p : Phase) (due : Tick) (k : Nat) :
    (s.insertPast n p due k).channels = s.channels := rfl
@[simp] theorem State.insertPast_pins (s : State) (n : SlotNo) (p : Phase) (due : Tick) (k : Nat) :
    (s.insertPast n p due k).pins = s.pins := rfl
@[simp] theorem State.insertPast_resetPin (s : State) (n : SlotNo) (p : Phase) (due : Tick) (k : Nat) :
    (s.insertPast n p due k).resetPin = s.resetPin := rfl
@[simp] theorem State.insertPast_groups (s : State) (n : SlotNo) (p : Phase) (due : Tick) (k : Nat) :
    (s.insertPast n p due k).groups = s.groups := rfl
@[simp] theorem State.insertPast_doneQueue (s : State) (n : SlotNo) (p : Phase) (due : Tick) (k : Nat) :
    (s.insertPast n p due k).doneQueue = s.doneQueue := rfl
@[simp] theorem State.insertPast_log (s : State) (n : SlotNo) (p : Phase) (due : Tick) (k : Nat) :
    (s.insertPast n p due k).log = s.log := rfl
@[simp] theorem State.insertPast_logThreshold (s : State) (n : SlotNo) (p : Phase) (due : Tick) (k : Nat) :
    (s.insertPast n p due k).logThreshold = s.logThreshold := rfl
@[simp] theorem State.insertPast_causeEnables (s : State) (n : SlotNo) (p : Phase) (due : Tick) (k : Nat) :
    (s.insertPast n p due k).causeEnables = s.causeEnables := rfl
@[simp] theorem State.insertPast_cmdCause (s : State) (n : SlotNo) (p : Phase) (due : Tick) (k : Nat) :
    (s.insertPast n p due k).cmdCause = s.cmdCause := rfl
@[simp] theorem State.insertPast_cu (s : State) (n : SlotNo) (p : Phase) (due : Tick) (k : Nat) :
    (s.insertPast n p due k).cu = s.cu := rfl
@[simp] theorem State.insertPast_busData (s : State) (n : SlotNo) (p : Phase) (due : Tick) (k : Nat) :
    (s.insertPast n p due k).busData = s.busData := rfl
@[simp] theorem State.insertPast_pending (s : State) (n : SlotNo) (p : Phase) (due : Tick) (k : Nat) :
    (s.insertPast n p due k).pending = s.pending := rfl
@[simp] theorem State.insertPast_now (s : State) (n : SlotNo) (p : Phase) (due : Tick) (k : Nat) :
    (s.insertPast n p due k).now = s.now := rfl
@[simp] theorem State.insertPast_slot (s : State) (n : SlotNo) (p : Phase) (due : Tick) (k : Nat) (m : SlotNo) :
    (s.insertPast n p due k).slot m = s.slot m := rfl
@[simp] theorem State.insertPast_line (s : State) (n : SlotNo) (p : Phase) (due : Tick) (k : Nat) (l' : LineNo) :
    (s.insertPast n p due k).line l' = s.line l' := rfl
@[simp] theorem State.insertPast_channel (s : State) (n : SlotNo) (p : Phase) (due : Tick) (k : Nat) (c' : ChanNo) :
    (s.insertPast n p due k).channel c' = s.channel c' := rfl
@[simp] theorem State.insertPast_group (s : State) (n : SlotNo) (p : Phase) (due : Tick) (k : Nat) (g' : GroupNo) :
    (s.insertPast n p due k).group g' = s.group g' := rfl

/-! ### State.withdraw -/

@[simp] theorem State.withdraw_tb (s : State) (n : SlotNo) : (s.withdraw n).tb = s.tb := rfl
@[simp] theorem State.withdraw_slots (s : State) (n : SlotNo) : (s.withdraw n).slots = s.slots := rfl
@[simp] theorem State.withdraw_calendar (s : State) (n : SlotNo) :
    (s.withdraw n).calendar = s.calendar.filter (fun e => e.slot != n) := rfl
@[simp] theorem State.withdraw_latenessLimit (s : State) (n : SlotNo) :
    (s.withdraw n).latenessLimit = s.latenessLimit := rfl
@[simp] theorem State.withdraw_lines (s : State) (n : SlotNo) : (s.withdraw n).lines = s.lines := rfl
@[simp] theorem State.withdraw_channels (s : State) (n : SlotNo) : (s.withdraw n).channels = s.channels := rfl
@[simp] theorem State.withdraw_pins (s : State) (n : SlotNo) : (s.withdraw n).pins = s.pins := rfl
@[simp] theorem State.withdraw_resetPin (s : State) (n : SlotNo) : (s.withdraw n).resetPin = s.resetPin := rfl
@[simp] theorem State.withdraw_groups (s : State) (n : SlotNo) : (s.withdraw n).groups = s.groups := rfl
@[simp] theorem State.withdraw_doneQueue (s : State) (n : SlotNo) : (s.withdraw n).doneQueue = s.doneQueue := rfl
@[simp] theorem State.withdraw_log (s : State) (n : SlotNo) : (s.withdraw n).log = s.log := rfl
@[simp] theorem State.withdraw_logThreshold (s : State) (n : SlotNo) :
    (s.withdraw n).logThreshold = s.logThreshold := rfl
@[simp] theorem State.withdraw_causeEnables (s : State) (n : SlotNo) :
    (s.withdraw n).causeEnables = s.causeEnables := rfl
@[simp] theorem State.withdraw_cmdCause (s : State) (n : SlotNo) : (s.withdraw n).cmdCause = s.cmdCause := rfl
@[simp] theorem State.withdraw_cu (s : State) (n : SlotNo) : (s.withdraw n).cu = s.cu := rfl
@[simp] theorem State.withdraw_busData (s : State) (n : SlotNo) : (s.withdraw n).busData = s.busData := rfl
@[simp] theorem State.withdraw_pending (s : State) (n : SlotNo) : (s.withdraw n).pending = s.pending := rfl
@[simp] theorem State.withdraw_now (s : State) (n : SlotNo) : (s.withdraw n).now = s.now := rfl
@[simp] theorem State.withdraw_slot (s : State) (n : SlotNo) (m : SlotNo) : (s.withdraw n).slot m = s.slot m := rfl
@[simp] theorem State.withdraw_line (s : State) (n : SlotNo) (l' : LineNo) :
    (s.withdraw n).line l' = s.line l' := rfl
@[simp] theorem State.withdraw_channel (s : State) (n : SlotNo) (c' : ChanNo) :
    (s.withdraw n).channel c' = s.channel c' := rfl
@[simp] theorem State.withdraw_group (s : State) (n : SlotNo) (g' : GroupNo) :
    (s.withdraw n).group g' = s.group g' := rfl

/-! ### State.complete -/

@[simp] theorem State.complete_tb (s : State) (n : SlotNo) (h : Held) (st : Status) :
    (s.complete n h st).tb = s.tb := rfl
@[simp] theorem State.complete_slots (s : State) (n : SlotNo) (h : Held) (st : Status) :
    (s.complete n h st).slots = s.slots.set n.val (.complete h st s.now) n.isLt := rfl
@[simp] theorem State.complete_calendar (s : State) (n : SlotNo) (h : Held) (st : Status) :
    (s.complete n h st).calendar = s.calendar := rfl
@[simp] theorem State.complete_latenessLimit (s : State) (n : SlotNo) (h : Held) (st : Status) :
    (s.complete n h st).latenessLimit = s.latenessLimit := rfl
@[simp] theorem State.complete_lines (s : State) (n : SlotNo) (h : Held) (st : Status) :
    (s.complete n h st).lines = s.lines := rfl
@[simp] theorem State.complete_channels (s : State) (n : SlotNo) (h : Held) (st : Status) :
    (s.complete n h st).channels = s.channels := rfl
@[simp] theorem State.complete_pins (s : State) (n : SlotNo) (h : Held) (st : Status) :
    (s.complete n h st).pins = s.pins := rfl
@[simp] theorem State.complete_resetPin (s : State) (n : SlotNo) (h : Held) (st : Status) :
    (s.complete n h st).resetPin = s.resetPin := rfl
@[simp] theorem State.complete_groups (s : State) (n : SlotNo) (h : Held) (st : Status) :
    (s.complete n h st).groups = s.groups := rfl
@[simp] theorem State.complete_doneQueue (s : State) (n : SlotNo) (h : Held) (st : Status) :
    (s.complete n h st).doneQueue = s.doneQueue ++ [n] := rfl
@[simp] theorem State.complete_log (s : State) (n : SlotNo) (h : Held) (st : Status) :
    (s.complete n h st).log = s.log := rfl
@[simp] theorem State.complete_logThreshold (s : State) (n : SlotNo) (h : Held) (st : Status) :
    (s.complete n h st).logThreshold = s.logThreshold := rfl
@[simp] theorem State.complete_causeEnables (s : State) (n : SlotNo) (h : Held) (st : Status) :
    (s.complete n h st).causeEnables = s.causeEnables := rfl
@[simp] theorem State.complete_cmdCause (s : State) (n : SlotNo) (h : Held) (st : Status) :
    (s.complete n h st).cmdCause = s.cmdCause := rfl
@[simp] theorem State.complete_cu (s : State) (n : SlotNo) (h : Held) (st : Status) :
    (s.complete n h st).cu = s.cu := rfl
@[simp] theorem State.complete_busData (s : State) (n : SlotNo) (h : Held) (st : Status) :
    (s.complete n h st).busData = s.busData := rfl
@[simp] theorem State.complete_pending (s : State) (n : SlotNo) (h : Held) (st : Status) :
    (s.complete n h st).pending = s.pending := rfl
@[simp] theorem State.complete_now (s : State) (n : SlotNo) (h : Held) (st : Status) :
    (s.complete n h st).now = s.now := rfl
@[simp] theorem State.complete_line (s : State) (n : SlotNo) (h : Held) (st : Status) (l' : LineNo) :
    (s.complete n h st).line l' = s.line l' := rfl
@[simp] theorem State.complete_channel (s : State) (n : SlotNo) (h : Held) (st : Status) (c' : ChanNo) :
    (s.complete n h st).channel c' = s.channel c' := rfl
@[simp] theorem State.complete_group (s : State) (n : SlotNo) (h : Held) (st : Status) (g' : GroupNo) :
    (s.complete n h st).group g' = s.group g' := rfl

/-! ### State.scheduleLead -/

@[simp] theorem State.scheduleLead_tb (s : State) (n : SlotNo) (h : Held) (due : Tick) :
    (s.scheduleLead n h due).tb = s.tb := rfl
@[simp] theorem State.scheduleLead_slots (s : State) (n : SlotNo) (h : Held) (due : Tick) :
    (s.scheduleLead n h due).slots = s.slots.set n.val (.scheduled h due) n.isLt := rfl
@[simp] theorem State.scheduleLead_calendar (s : State) (n : SlotNo) (h : Held) (due : Tick) :
    (s.scheduleLead n h due).calendar = insertEntry s.now ⟨n, .lead, due, 0⟩ s.calendar := rfl
@[simp] theorem State.scheduleLead_latenessLimit (s : State) (n : SlotNo) (h : Held) (due : Tick) :
    (s.scheduleLead n h due).latenessLimit = s.latenessLimit := rfl
@[simp] theorem State.scheduleLead_lines (s : State) (n : SlotNo) (h : Held) (due : Tick) :
    (s.scheduleLead n h due).lines = s.lines := rfl
@[simp] theorem State.scheduleLead_channels (s : State) (n : SlotNo) (h : Held) (due : Tick) :
    (s.scheduleLead n h due).channels = s.channels := rfl
@[simp] theorem State.scheduleLead_pins (s : State) (n : SlotNo) (h : Held) (due : Tick) :
    (s.scheduleLead n h due).pins = s.pins := rfl
@[simp] theorem State.scheduleLead_resetPin (s : State) (n : SlotNo) (h : Held) (due : Tick) :
    (s.scheduleLead n h due).resetPin = s.resetPin := rfl
@[simp] theorem State.scheduleLead_groups (s : State) (n : SlotNo) (h : Held) (due : Tick) :
    (s.scheduleLead n h due).groups = s.groups := rfl
@[simp] theorem State.scheduleLead_doneQueue (s : State) (n : SlotNo) (h : Held) (due : Tick) :
    (s.scheduleLead n h due).doneQueue = s.doneQueue := rfl
@[simp] theorem State.scheduleLead_log (s : State) (n : SlotNo) (h : Held) (due : Tick) :
    (s.scheduleLead n h due).log = s.log := rfl
@[simp] theorem State.scheduleLead_logThreshold (s : State) (n : SlotNo) (h : Held) (due : Tick) :
    (s.scheduleLead n h due).logThreshold = s.logThreshold := rfl
@[simp] theorem State.scheduleLead_causeEnables (s : State) (n : SlotNo) (h : Held) (due : Tick) :
    (s.scheduleLead n h due).causeEnables = s.causeEnables := rfl
@[simp] theorem State.scheduleLead_cmdCause (s : State) (n : SlotNo) (h : Held) (due : Tick) :
    (s.scheduleLead n h due).cmdCause = s.cmdCause := rfl
@[simp] theorem State.scheduleLead_cu (s : State) (n : SlotNo) (h : Held) (due : Tick) :
    (s.scheduleLead n h due).cu = s.cu := rfl
@[simp] theorem State.scheduleLead_busData (s : State) (n : SlotNo) (h : Held) (due : Tick) :
    (s.scheduleLead n h due).busData = s.busData := rfl
@[simp] theorem State.scheduleLead_pending (s : State) (n : SlotNo) (h : Held) (due : Tick) :
    (s.scheduleLead n h due).pending = s.pending := rfl
@[simp] theorem State.scheduleLead_now (s : State) (n : SlotNo) (h : Held) (due : Tick) :
    (s.scheduleLead n h due).now = s.now := rfl
@[simp] theorem State.scheduleLead_line (s : State) (n : SlotNo) (h : Held) (due : Tick) (l' : LineNo) :
    (s.scheduleLead n h due).line l' = s.line l' := rfl
@[simp] theorem State.scheduleLead_channel (s : State) (n : SlotNo) (h : Held) (due : Tick) (c' : ChanNo) :
    (s.scheduleLead n h due).channel c' = s.channel c' := rfl
@[simp] theorem State.scheduleLead_group (s : State) (n : SlotNo) (h : Held) (due : Tick) (g' : GroupNo) :
    (s.scheduleLead n h due).group g' = s.group g' := rfl

/-! ### State.rearm -/

@[simp] theorem State.rearm_tb (s : State) (n : SlotNo) (h : Held) (b : Tick) (k : Nat) :
    (s.rearm n h b k).tb = s.tb := rfl
@[simp] theorem State.rearm_slots (s : State) (n : SlotNo) (h : Held) (b : Tick) (k : Nat) :
    (s.rearm n h b k).slots = s.slots.set n.val (.scheduled h (b + h.action.period.zeroExtend 32)) n.isLt := rfl
@[simp] theorem State.rearm_calendar (s : State) (n : SlotNo) (h : Held) (b : Tick) (k : Nat) :
    (s.rearm n h b k).calendar = insertEntry s.now
      ⟨n, .lead, b + h.action.period.zeroExtend 32, k - (h.action.period.toNat + 2147483648)⟩ s.calendar := rfl
@[simp] theorem State.rearm_latenessLimit (s : State) (n : SlotNo) (h : Held) (b : Tick) (k : Nat) :
    (s.rearm n h b k).latenessLimit = s.latenessLimit := rfl
@[simp] theorem State.rearm_lines (s : State) (n : SlotNo) (h : Held) (b : Tick) (k : Nat) :
    (s.rearm n h b k).lines = s.lines := rfl
@[simp] theorem State.rearm_channels (s : State) (n : SlotNo) (h : Held) (b : Tick) (k : Nat) :
    (s.rearm n h b k).channels = s.channels := rfl
@[simp] theorem State.rearm_pins (s : State) (n : SlotNo) (h : Held) (b : Tick) (k : Nat) :
    (s.rearm n h b k).pins = s.pins := rfl
@[simp] theorem State.rearm_resetPin (s : State) (n : SlotNo) (h : Held) (b : Tick) (k : Nat) :
    (s.rearm n h b k).resetPin = s.resetPin := rfl
@[simp] theorem State.rearm_groups (s : State) (n : SlotNo) (h : Held) (b : Tick) (k : Nat) :
    (s.rearm n h b k).groups = s.groups := rfl
@[simp] theorem State.rearm_doneQueue (s : State) (n : SlotNo) (h : Held) (b : Tick) (k : Nat) :
    (s.rearm n h b k).doneQueue = s.doneQueue := rfl
@[simp] theorem State.rearm_log (s : State) (n : SlotNo) (h : Held) (b : Tick) (k : Nat) :
    (s.rearm n h b k).log = s.log := rfl
@[simp] theorem State.rearm_logThreshold (s : State) (n : SlotNo) (h : Held) (b : Tick) (k : Nat) :
    (s.rearm n h b k).logThreshold = s.logThreshold := rfl
@[simp] theorem State.rearm_causeEnables (s : State) (n : SlotNo) (h : Held) (b : Tick) (k : Nat) :
    (s.rearm n h b k).causeEnables = s.causeEnables := rfl
@[simp] theorem State.rearm_cmdCause (s : State) (n : SlotNo) (h : Held) (b : Tick) (k : Nat) :
    (s.rearm n h b k).cmdCause = s.cmdCause := rfl
@[simp] theorem State.rearm_cu (s : State) (n : SlotNo) (h : Held) (b : Tick) (k : Nat) :
    (s.rearm n h b k).cu = s.cu := rfl
@[simp] theorem State.rearm_busData (s : State) (n : SlotNo) (h : Held) (b : Tick) (k : Nat) :
    (s.rearm n h b k).busData = s.busData := rfl
@[simp] theorem State.rearm_pending (s : State) (n : SlotNo) (h : Held) (b : Tick) (k : Nat) :
    (s.rearm n h b k).pending = s.pending := rfl
@[simp] theorem State.rearm_now (s : State) (n : SlotNo) (h : Held) (b : Tick) (k : Nat) :
    (s.rearm n h b k).now = s.now := rfl
@[simp] theorem State.rearm_line (s : State) (n : SlotNo) (h : Held) (b : Tick) (k : Nat) (l' : LineNo) :
    (s.rearm n h b k).line l' = s.line l' := rfl
@[simp] theorem State.rearm_channel (s : State) (n : SlotNo) (h : Held) (b : Tick) (k : Nat) (c' : ChanNo) :
    (s.rearm n h b k).channel c' = s.channel c' := rfl
@[simp] theorem State.rearm_group (s : State) (n : SlotNo) (h : Held) (b : Tick) (k : Nat) (g' : GroupNo) :
    (s.rearm n h b k).group g' = s.group g' := rfl

/-! ### State.clearMeasurements -/

@[simp] theorem State.clearMeasurements_tb (s : State) : (s.clearMeasurements).tb = s.tb := rfl
@[simp] theorem State.clearMeasurements_slots (s : State) : (s.clearMeasurements).slots = s.slots := rfl
@[simp] theorem State.clearMeasurements_calendar (s : State) : (s.clearMeasurements).calendar = s.calendar := rfl
@[simp] theorem State.clearMeasurements_latenessLimit (s : State) :
    (s.clearMeasurements).latenessLimit = s.latenessLimit := rfl
@[simp] theorem State.clearMeasurements_lines (s : State) : (s.clearMeasurements).lines = s.lines := rfl
@[simp] theorem State.clearMeasurements_channels (s : State) :
    (s.clearMeasurements).channels = Vector.ofFn (fun c => (s.channels.get c).cleared) := rfl
@[simp] theorem State.clearMeasurements_pins (s : State) : (s.clearMeasurements).pins = s.pins := rfl
@[simp] theorem State.clearMeasurements_resetPin (s : State) : (s.clearMeasurements).resetPin = s.resetPin := rfl
@[simp] theorem State.clearMeasurements_groups (s : State) : (s.clearMeasurements).groups = s.groups := rfl
@[simp] theorem State.clearMeasurements_doneQueue (s : State) : (s.clearMeasurements).doneQueue = s.doneQueue := rfl
@[simp] theorem State.clearMeasurements_log (s : State) : (s.clearMeasurements).log = s.log := rfl
@[simp] theorem State.clearMeasurements_logThreshold (s : State) :
    (s.clearMeasurements).logThreshold = s.logThreshold := rfl
@[simp] theorem State.clearMeasurements_causeEnables (s : State) :
    (s.clearMeasurements).causeEnables = s.causeEnables := rfl
@[simp] theorem State.clearMeasurements_cmdCause (s : State) : (s.clearMeasurements).cmdCause = s.cmdCause := rfl
@[simp] theorem State.clearMeasurements_cu (s : State) : (s.clearMeasurements).cu = s.cu := rfl
@[simp] theorem State.clearMeasurements_busData (s : State) : (s.clearMeasurements).busData = s.busData := rfl
@[simp] theorem State.clearMeasurements_pending (s : State) : (s.clearMeasurements).pending = s.pending := rfl
@[simp] theorem State.clearMeasurements_now (s : State) : (s.clearMeasurements).now = s.now := rfl
@[simp] theorem State.clearMeasurements_slot (s : State) (m : SlotNo) :
    (s.clearMeasurements).slot m = s.slot m := rfl
@[simp] theorem State.clearMeasurements_line (s : State) (l' : LineNo) :
    (s.clearMeasurements).line l' = s.line l' := rfl
@[simp] theorem State.clearMeasurements_group (s : State) (g' : GroupNo) :
    (s.clearMeasurements).group g' = s.group g' := rfl

@[simp] theorem State.setTimebase_now (s : State) (x : Timebase) : (s.setTimebase x).now = x.value := rfl

/-! ### Reading a record after a record is written -/

theorem State.slot_setSlot (s : State) (n m : SlotNo) (x : Slot) :
    (s.setSlot n x).slot m = if m = n then x else s.slot m := by
  unfold State.slot State.setSlot
  simp only [Vector.get_eq_getElem, Vector.getElem_set, Fin.ext_iff, eq_comm]

@[simp] theorem State.slot_setSlot_self (s : State) (n : SlotNo) (x : Slot) : (s.setSlot n x).slot n = x := by
  simp [State.slot_setSlot]

theorem State.slot_setSlot_of_ne (s : State) {n m : SlotNo} (x : Slot) (hne : m ≠ n) :
    (s.setSlot n x).slot m = s.slot m := by
  simp [State.slot_setSlot, hne]

theorem State.line_setLine (s : State) (l k : LineNo) (x : Line) :
    (s.setLine l x).line k = if k = l then x else s.line k := by
  unfold State.line State.setLine
  simp only [Vector.get_eq_getElem, Vector.getElem_set, Fin.ext_iff, eq_comm]

@[simp] theorem State.line_setLine_self (s : State) (l : LineNo) (x : Line) : (s.setLine l x).line l = x := by
  simp [State.line_setLine]

theorem State.channel_setChannel (s : State) (c k : ChanNo) (x : Channel) :
    (s.setChannel c x).channel k = if k = c then x else s.channel k := by
  unfold State.channel State.setChannel
  simp only [Vector.get_eq_getElem, Vector.getElem_set, Fin.ext_iff, eq_comm]

@[simp] theorem State.channel_setChannel_self (s : State) (c : ChanNo) (x : Channel) :
    (s.setChannel c x).channel c = x := by
  simp [State.channel_setChannel]

theorem State.group_setGroup (s : State) (g k : GroupNo) (x : Group) :
    (s.setGroup g x).group k = if k = g then x else s.group k := by
  unfold State.group State.setGroup
  simp only [Vector.get_eq_getElem, Vector.getElem_set, Fin.ext_iff, eq_comm]

@[simp] theorem State.group_setGroup_self (s : State) (g : GroupNo) (x : Group) : (s.setGroup g x).group g = x := by
  simp [State.group_setGroup]

theorem State.slot_complete (s : State) (n m : SlotNo) (h : Held) (st : Status) :
    (s.complete n h st).slot m = if m = n then .complete h st s.now else s.slot m :=
  State.slot_setSlot s n m _

theorem State.slot_scheduleLead (s : State) (n m : SlotNo) (h : Held) (due : Tick) :
    (s.scheduleLead n h due).slot m = if m = n then .scheduled h due else s.slot m :=
  State.slot_setSlot s n m _

theorem State.slot_rearm (s : State) (n m : SlotNo) (h : Held) (base : Tick) (behind : Nat) :
    (s.rearm n h base behind).slot m
      = if m = n then .scheduled h (base + h.action.period.zeroExtend 32) else s.slot m :=
  State.slot_setSlot s n m _

theorem State.channel_clearMeasurements (s : State) (c : ChanNo) :
    s.clearMeasurements.channel c = (s.channel c).cleared := by
  unfold State.channel State.clearMeasurements
  simp [Vector.get_eq_getElem]

/-- Two states with the same fields are the same state. -/
theorem State.eq_of_fields {s t : State} (h1 : s.tb = t.tb) (h2 : s.slots = t.slots) (h3 : s.calendar = t.calendar)
    (h4 : s.latenessLimit = t.latenessLimit) (h5 : s.lines = t.lines) (h6 : s.channels = t.channels)
    (h7 : s.pins = t.pins) (h8 : s.groups = t.groups) (h9 : s.doneQueue = t.doneQueue) (h10 : s.log = t.log)
    (h11 : s.logThreshold = t.logThreshold) (h12 : s.causeEnables = t.causeEnables) (h13 : s.cmdCause = t.cmdCause)
    (h14 : s.cu = t.cu) (h15 : s.busData = t.busData)
    (h16 : s.pending = t.pending) (h17 : s.resetPin = t.resetPin) : s = t := by
  cases s
  cases t
  simp_all

end Sys2Proof.Machine
end

