-- ==== Sys2Proof/Laws/Ops.lean ====
section
/-! SUPPORT. For each shared operation, what it can do: the lemmas that a proof cites in place of unfolding it. -/

namespace Sys2Proof.Machine

/-! ### The calendar (R37, R39, R42) -/

theorem mem_insertEntry (now : Tick) (new e : Entry) (entries : List Entry) :
    e ∈ insertEntry now new entries ↔ e = new ∨ e ∈ entries := by
  induction entries with
  | nil => simp [insertEntry]
  | cons d rest ih =>
    simp only [insertEntry]
    split
    · simp only [List.mem_cons, ih]
      tauto
    · simp

theorem insertEntry_length (now : Tick) (new : Entry) (entries : List Entry) :
    (insertEntry now new entries).length = entries.length + 1 := by
  induction entries with
  | nil => rfl
  | cons d rest ih =>
    simp only [insertEntry]
    split <;> simp [ih]

/-- An entry that a predicate drops leaves the filtered calendar as it was. -/
theorem filter_insertEntry_of_false (now : Tick) (new : Entry) (entries : List Entry) (p : Entry → Bool)
    (hp : p new = false) : (insertEntry now new entries).filter p = entries.filter p := by
  induction entries with
  | nil => simp [insertEntry, hp]
  | cons d rest ih =>
    simp only [insertEntry]
    split
    · simp only [List.filter_cons, ih]
    · simp [List.filter_cons, hp]

/-- An entry that a predicate keeps is the only one there when the predicate kept none before. -/
theorem filter_insertEntry_of_true (now : Tick) (new : Entry) (entries : List Entry) (p : Entry → Bool)
    (hp : p new = true) (hnone : entries.filter p = []) : (insertEntry now new entries).filter p = [new] := by
  induction entries with
  | nil => simp [insertEntry, hp]
  | cons d rest ih =>
    simp only [List.filter_cons] at hnone
    split at hnone
    · simp at hnone
    · rename_i hd
      simp only [insertEntry]
      split
      · simp [hd, ih hnone]
      · simp [hp, hd, hnone]

/-- A withdrawal of a slot that has no entry leaves the calendar as it is. -/
theorem State.withdraw_of_none (s : State) (n : SlotNo) (h : ∀ e ∈ s.calendar, e.slot ≠ n) : s.withdraw n = s := by
  unfold State.withdraw State.setCalendar
  rw [List.filter_eq_self.mpr (by simpa using h)]

theorem Entry.distance_of_zero (now : Tick) (e : Entry) (h : e.pastFloor = 0) :
    e.distance now = Machine.distance now e.due := by
  simp [Entry.distance, h]

theorem Entry.distance_of_pos (now : Tick) (e : Entry) (h : 0 < e.pastFloor) :
    e.distance now = Config.lowestDistance := by
  simp [Entry.distance, Nat.ne_of_gt h]

/-- The two ways an entry's distance follows the timebase: one tick closer, or held at the lowest distance (R52). -/
theorem distance_add_one (now t : Tick) (h : distance now t ≠ Config.lowestDistance) :
    distance (now + 1) t = distance now t - 1 := by
  unfold distance at *
  have h1 : t - (now + 1) = (t - now) - 1 := by ring
  rw [h1]
  generalize t - now = d at *
  have hd := d.isLt
  have h2 : (d - 1#32).toNat = if d.toNat = 0 then 2 ^ 32 - 1 else d.toNat - 1 := by
    split <;> rename_i h0
    · rw [BitVec.toNat_sub, h0]; rfl
    · rw [BitVec.toNat_sub]; simp; omega
  have h3 : (d - 1).toNat = if d.toNat = 0 then 2 ^ 32 - 1 else d.toNat - 1 := h2
  simp only [BitVec.toInt_eq_toNat_cond, h3] at *
  unfold Config.lowestDistance at h
  split at h <;> split_ifs <;> omega

/-! ### The capture log (R153, R154) -/

@[simp] theorem markNewest_length (l : List Capture) : (markNewest l).length = l.length := by
  induction l with
  | nil => rfl
  | cons c rest ih =>
    cases rest with
    | nil => rfl
    | cons d rest => simpa [markNewest] using ih

theorem markNewest_append (older : List Capture) (newest : Capture) :
    markNewest (older ++ [newest]) = older ++ [{ newest with overrun := true }] := by
  induction older with
  | nil => rfl
  | cons c rest ih =>
    cases rest with
    | nil => rfl
    | cons d rest => simpa [markNewest] using ih

/-- An append writes the log and nothing else. -/
theorem State.appendCapture_eq (s : State) (c : Capture) :
    s.appendCapture c
      = s.setLog (if s.log.length < Config.logCapacity then s.log ++ [c] else markNewest s.log) := by
  unfold State.appendCapture
  split <;> rfl

theorem State.appendCapture_log_le (s : State) (c : Capture) (h : s.log.length ≤ 32) :
    (s.appendCapture c).log.length ≤ 32 := by
  rw [State.appendCapture_eq]
  simp only [State.setLog_log]
  split
  · rename_i hlt
    simp only [Config.logCapacity] at hlt
    simp
    omega
  · simpa using h

/-! ### Optional records -/

@[simp] theorem State.onLine_none (s : State) (f : Line → Line) : s.onLine none f = s := rfl

@[simp] theorem State.onLine_some (s : State) (l : LineNo) (f : Line → Line) :
    s.onLine (some l) f = s.setLine l (f (s.line l)) := rfl

@[simp] theorem State.onChannel_none (s : State) (f : Channel → Channel) : s.onChannel none f = s := rfl

@[simp] theorem State.onChannel_some (s : State) (c : ChanNo) (f : Channel → Channel) :
    s.onChannel (some c) f = s.setChannel c (f (s.channel c)) := rfl

/-- A change of an optional line writes the lines and nothing else. -/
theorem State.onLine_eq (s : State) (o : Option LineNo) (f : Line → Line) :
    s.onLine o f = { s with lines := (s.onLine o f).lines } := by
  cases o <;> rfl

/-- A change of an optional channel writes the channels and nothing else. -/
theorem State.onChannel_eq (s : State) (o : Option ChanNo) (f : Channel → Channel) :
    s.onChannel o f = { s with channels := (s.onChannel o f).channels } := by
  cases o <;> rfl

theorem State.line_onLine (s : State) (o : Option LineNo) (f : Line → Line) (k : LineNo) :
    (s.onLine o f).line k = if o = some k then f (s.line k) else s.line k := by
  cases o with
  | none => simp
  | some l =>
    simp only [State.onLine_some, State.line_setLine, Option.some.injEq, eq_comm]
    split
    · rename_i h; subst h; rfl
    · rfl

theorem State.channel_onChannel (s : State) (o : Option ChanNo) (f : Channel → Channel) (k : ChanNo) :
    (s.onChannel o f).channel k = if o = some k then f (s.channel k) else s.channel k := by
  cases o with
  | none => simp
  | some c =>
    simp only [State.onChannel_some, State.channel_setChannel, Option.some.injEq, eq_comm]
    split
    · rename_i h; subst h; rfl
    · rfl

/-! ### Parking, placement and claims (R10, R17, R75, R127) -/

/-- Parking writes the slot and the channels and nothing else. -/
theorem State.park_eq (s : State) (n : SlotNo) (h : Held) :
    s.park n h
      = { s with slots := s.slots.set n.val (.parked h) n.isLt, channels := (s.park n h).channels } := by
  unfold State.park
  cases h.action.channel <;> rfl

theorem State.park_channel (s : State) (n : SlotNo) (h : Held) (k : ChanNo) :
    (s.park n h).channel k
      = if h.action.channel = some k then { s.channel k with parked := (s.channel k).parked ++ [n] }
        else s.channel k := by
  unfold State.park
  rw [State.channel_onChannel]
  simp

theorem State.unpark_channel (s : State) (n : SlotNo) (h : Held) (k : ChanNo) :
    (s.unpark n h).channel k
      = if h.action.channel = some k then { s.channel k with parked := (s.channel k).parked.filter (· != n) }
        else s.channel k := by
  unfold State.unpark
  rw [State.channel_onChannel]

/-- Unparking writes the channels and nothing else. -/
theorem State.unpark_eq (s : State) (n : SlotNo) (h : Held) :
    s.unpark n h = { s with channels := (s.unpark n h).channels } :=
  State.onChannel_eq s _ _

/-- Placement by its timing mode: a LEAD entry at the time value, one that far from now, or the parked list. -/
theorem State.place_cases (s : State) (n : SlotNo) (h : Held) :
    (h.action.mode = .abs ∧ s.place n h = s.scheduleLead n h.reloaded h.action.timeValue) ∨
    (h.action.mode = .rel ∧ s.place n h = s.scheduleLead n h.reloaded (s.now + h.action.timeValue)) ∨
    (h.action.mode = .trig ∧ s.place n h = s.park n h.reloaded) := by
  unfold State.place
  cases h.action.mode <;> simp

/-- The release of claims writes lines and channels and nothing else. -/
theorem State.releaseClaims_eq (s : State) (h : Held) :
    s.releaseClaims h
      = { s with lines := (s.releaseClaims h).lines, channels := (s.releaseClaims h).channels } := by
  unfold State.releaseClaims
  cases h.action.line <;> cases h.action.channel <;> simp only <;> split <;> rfl

theorem State.releaseClaims_line (s : State) (h : Held) (k : LineNo) :
    (s.releaseClaims h).line k
      = if h.action.line = some k then { s.line k with isActive := false, claim := none } else s.line k := by
  have hl := State.line_onLine s h.action.line (fun l => { l with isActive := false, claim := none }) k
  unfold State.releaseClaims
  simp only
  split
  · rw [State.onChannel_eq]
    exact hl
  · exact hl

theorem State.releaseClaims_channel (s : State) (h : Held) (k : ChanNo) :
    (s.releaseClaims h).channel k
      = if h.action.kind = .strobe ∧ h.action.channel = some k then { s.channel k with ackClaim := none }
        else s.channel k := by
  unfold State.releaseClaims
  have hs : ∀ c, (s.onLine h.action.line (fun l => { l with isActive := false, claim := none })).channel c
      = s.channel c := fun c => by rw [State.onLine_eq]; rfl
  simp only
  split
  · rename_i hk
    rw [State.channel_onChannel]
    simp [hk, hs]
  · rename_i hk
    simp [hk, hs]

/-! ### Continuation (R70 to R73) -/

/-- The four outcomes of a continuation, in their order. -/
theorem State.continuation_cases (s : State) (n : SlotNo) (h : Held) (base : Tick) (behind : Nat) :
    (h.supersedePending = true ∧ s.continuation n h base behind = s.complete n h .superseded) ∨
    (h.supersedePending = false ∧ (h.action.count = 0 ∨ 0 < h.remaining.toNat) ∧
      s.continuation n h base behind = s.rearm n h base behind) ∨
    (h.supersedePending = false ∧ ¬ (h.action.count = 0 ∨ 0 < h.remaining.toNat) ∧ h.action.rearm = true ∧
      s.continuation n h base behind = s.park n h.reloaded) ∨
    (h.supersedePending = false ∧ ¬ (h.action.count = 0 ∨ 0 < h.remaining.toNat) ∧ h.action.rearm = false ∧
      s.continuation n h base behind = s.complete n h .done) := by
  unfold State.continuation
  by_cases h1 : h.supersedePending = true
  · exact .inl ⟨h1, by rw [if_pos h1]⟩
  · rw [if_neg h1]
    have h1' : h.supersedePending = false := by simpa using h1
    by_cases h2 : h.action.count = 0 ∨ 0 < h.remaining.toNat
    · exact .inr (.inl ⟨h1', h2, by rw [if_pos h2]⟩)
    · rw [if_neg h2]
      by_cases h3 : h.action.rearm = true
      · exact .inr (.inr (.inl ⟨h1', h2, h3, by rw [if_pos h3]⟩))
      · exact .inr (.inr (.inr ⟨h1', h2, by simpa using h3, by rw [if_neg h3]⟩))

/-! ### Operations over many slots -/

/-- What every step of a fold leaves alone, the fold leaves alone. -/
theorem foldl_keeps {α β : Type} (f : State → α → State) (view : State → β)
    (hf : ∀ s a, view (f s a) = view s) (l : List α) (s : State) : view (l.foldl f s) = view s := by
  induction l generalizing s with
  | nil => rfl
  | cons a rest ih => rw [List.foldl_cons, ih, hf]

/-- What every step of a fold keeps true, the fold keeps true. -/
theorem foldl_invariant {α : Type} (f : State → α → State) (P : State → Prop)
    (hf : ∀ s a, P s → P (f s a)) (l : List α) (s : State) (hs : P s) : P (l.foldl f s) := by
  induction l generalizing s with
  | nil => exact hs
  | cons a rest ih => exact ih _ (hf s a hs)

/-- One slot of a launch: a PARKED slot becomes SCHEDULED, any other is left alone. -/
theorem State.launchSlot_cases (trigger : Tick) (s : State) (n : SlotNo) :
    (∃ h, s.slot n = .parked h ∧
      State.launchSlot trigger s n = s.scheduleLead n h.reloaded (trigger + h.action.timeValue)) ∨
    ((∀ h, s.slot n ≠ .parked h) ∧ State.launchSlot trigger s n = s) := by
  unfold State.launchSlot
  split
  · rename_i h heq
    exact .inl ⟨h, heq, rfl⟩
  · rename_i hne
    exact .inr ⟨fun h heq => hne h heq, rfl⟩

/-- One slot under a retiring: superseded from the calendar or its parked list, marked while ACTIVE, or left alone. -/
theorem State.retireSlot_cases (g : GroupNo) (s : State) (n : SlotNo) :
    (∃ h due, s.slot n = .scheduled h due ∧ h.action.group = some g ∧
      State.retireSlot g s n = (s.withdraw n).complete n h .superseded) ∨
    (∃ h, s.slot n = .parked h ∧ h.action.group = some g ∧
      State.retireSlot g s n = (s.unpark n h).complete n h .superseded) ∨
    (∃ h leadDue leadTime leadPast, s.slot n = .active h leadDue leadTime leadPast ∧ h.action.group = some g ∧
      State.retireSlot g s n = s.setSlot n (.active { h with supersedePending := true } leadDue leadTime leadPast)) ∨
    (State.retireSlot g s n = s ∧ (s.slot n).inPlacedGeneration g = false) := by
  unfold State.retireSlot
  cases hs : s.slot n with
  | free => simp [Slot.inPlacedGeneration, Slot.isLive]
  | opened h => simp [Slot.inPlacedGeneration, Slot.isLive]
  | complete h st t => simp [Slot.inPlacedGeneration, Slot.isLive]
  | scheduled h due => by_cases hg : h.action.group = some g <;> simp [hg, Slot.inPlacedGeneration, Slot.held?]
  | parked h => by_cases hg : h.action.group = some g <;> simp [hg, Slot.inPlacedGeneration, Slot.held?]
  | active h a b p => by_cases hg : h.action.group = some g <;> simp [hg, Slot.inPlacedGeneration, Slot.held?]

/-- One member of an open list: an OPEN slot is placed, any other is left alone. -/
theorem State.placeMember_cases (s : State) (n : SlotNo) :
    (∃ h, s.slot n = .opened h ∧ s.placeMember n = s.place n h) ∨
    ((∀ h, s.slot n ≠ .opened h) ∧ s.placeMember n = s) := by
  unfold State.placeMember
  split
  · rename_i h heq
    exact .inl ⟨h, heq, rfl⟩
  · rename_i hne
    exact .inr ⟨fun h heq => hne h heq, rfl⟩

/-! ### What a launch and a commit leave alone -/

/-- The fields that neither a placement nor a retiring nor a commit touches. -/
def State.untouched (s : State) :
    Timebase × Half × Vector Line 16 × Vector Bool 8 × ResetPin × List Capture × Nat × BitVec 5 × Bool × CommandUnit × Byte
      × List Instr :=
  (s.tb, s.latenessLimit, s.lines, s.pins, s.resetPin, s.log, s.logThreshold, s.causeEnables, s.cmdCause, s.cu, s.busData,
    s.pending)

theorem State.place_untouched (s : State) (n : SlotNo) (h : Held) : (s.place n h).untouched = s.untouched := by
  rcases s.place_cases n h with ⟨-, e⟩ | ⟨-, e⟩ | ⟨-, e⟩ <;> rw [e]
  · rfl
  · rfl
  · rw [State.park_eq]; rfl

theorem State.launch_untouched (s : State) (ch : ChanNo) (trigger : Tick) :
    (s.launch ch trigger).untouched = s.untouched ∧ (s.launch ch trigger).groups = s.groups ∧
      (s.launch ch trigger).doneQueue = s.doneQueue := by
  have step : ∀ (t : State) (n : SlotNo), (State.launchSlot trigger t n).untouched = t.untouched ∧
      (State.launchSlot trigger t n).groups = t.groups ∧ (State.launchSlot trigger t n).doneQueue = t.doneQueue := by
    intro t n
    rcases t.launchSlot_cases trigger n with ⟨h, -, e⟩ | ⟨-, e⟩ <;> rw [e] <;> exact ⟨rfl, rfl, rfl⟩
  unfold State.launch
  exact ⟨foldl_keeps _ State.untouched (fun t n => (step t n).1) _ _,
    foldl_keeps _ State.groups (fun t n => (step t n).2.1) _ _,
    foldl_keeps _ State.doneQueue (fun t n => (step t n).2.2) _ _⟩

theorem State.retire_untouched (s : State) (g : GroupNo) :
    (s.retire g).untouched = s.untouched ∧ (s.retire g).groups = s.groups := by
  have step : ∀ (t : State) (n : SlotNo), (State.retireSlot g t n).untouched = t.untouched ∧
      (State.retireSlot g t n).groups = t.groups := by
    intro t n
    rcases t.retireSlot_cases g n with ⟨h, d, -, -, e⟩ | ⟨h, -, -, e⟩ | ⟨h, a, b, p, -, -, e⟩ | ⟨e, -⟩ <;> rw [e]
    · exact ⟨rfl, rfl⟩
    · rw [State.unpark_eq]; exact ⟨rfl, rfl⟩
    · exact ⟨rfl, rfl⟩
    · exact ⟨rfl, rfl⟩
  exact ⟨foldl_keeps _ State.untouched (fun t n => (step t n).1) _ _,
    foldl_keeps _ State.groups (fun t n => (step t n).2) _ _⟩

theorem State.placeMembers_untouched (s : State) (l : List SlotNo) :
    (l.foldl State.placeMember s).untouched = s.untouched ∧ (l.foldl State.placeMember s).groups = s.groups ∧
      (l.foldl State.placeMember s).doneQueue = s.doneQueue := by
  have step : ∀ (t : State) (n : SlotNo), (t.placeMember n).untouched = t.untouched ∧
      (t.placeMember n).groups = t.groups ∧ (t.placeMember n).doneQueue = t.doneQueue := by
    intro t n
    rcases t.placeMember_cases n with ⟨h, -, e⟩ | ⟨-, e⟩ <;> rw [e]
    · refine ⟨State.place_untouched t n h, ?_⟩
      rcases t.place_cases n h with ⟨-, e⟩ | ⟨-, e⟩ | ⟨-, e⟩ <;> rw [e]
      · exact ⟨rfl, rfl⟩
      · exact ⟨rfl, rfl⟩
      · rw [State.park_eq]; exact ⟨rfl, rfl⟩
    · exact ⟨rfl, rfl, rfl⟩
  exact ⟨foldl_keeps _ State.untouched (fun t n => (step t n).1) _ _,
    foldl_keeps _ State.groups (fun t n => (step t n).2.1) _ _,
    foldl_keeps _ State.doneQueue (fun t n => (step t n).2.2) _ _⟩

/-- A commit leaves everything but slots, calendar, channels, completion queue and groups alone. -/
theorem State.commitGroup_untouched (s : State) (g : GroupNo) (replace : Bool) (cause : CommitCause) :
    (s.commitGroup g replace cause).untouched = s.untouched := by
  have close : ∀ t : State, (t.closeCommit g cause).untouched = t.untouched := fun _ => rfl
  unfold State.commitGroup
  simp only
  rw [close, (State.placeMembers_untouched _ _).1]
  split
  · exact ((s.stopPending g).retire_untouched g).1
  · rfl

/-- A commit writes the record of its own group and no other (R94, R98). -/
theorem State.commitGroup_group (s : State) (g k : GroupNo) (replace : Bool) (cause : CommitCause) :
    (s.commitGroup g replace cause).group k
      = if k = g then
          { state := .empty, openList := [], lastCause := cause, done := (s.group g).done || cause != .now }
        else s.group k := by
  have groups : ∀ t u : State, t.groups = u.groups → ∀ m, t.group m = u.group m := by
    intro t u h m
    simp [State.group, h]
  have stopped : ∀ t : State, t.groups = (s.stopPending g).groups →
      (t.closeCommit g cause).group k
        = if k = g then
            { state := .empty, openList := [], lastCause := cause, done := (s.group g).done || cause != .now }
          else s.group k := by
    intro t ht
    unfold State.closeCommit
    rw [State.group_setGroup, groups t _ ht, groups t _ ht]
    unfold State.stopPending
    rw [State.group_setGroup, State.group_setGroup]
    by_cases hk : k = g <;> simp [hk]
  unfold State.commitGroup
  simp only
  apply stopped
  rw [(State.placeMembers_untouched _ _).2.1]
  split
  · exact ((s.stopPending g).retire_untouched g).2
  · rfl

/-- The due commits of an event leave everything but slots, calendar, channels, completion queue and groups alone. -/
theorem State.runCommits_untouched (rounds : Nat) (fired : List GroupNo) (s : State) :
    (State.runCommits rounds fired s).untouched = s.untouched := by
  induction rounds generalizing s with
  | zero => rfl
  | succ k ih =>
    unfold State.runCommits
    split
    · rfl
    · rw [ih, State.commitGroup_untouched]

/-- With no commit due, none executes. -/
theorem State.runCommits_of_none_due (rounds : Nat) (fired : List GroupNo) (s : State)
    (h : ∀ g, s.dueCommit fired g = none) : State.runCommits rounds fired s = s := by
  cases rounds with
  | zero => rfl
  | succ k =>
    have hn : groupNumbers.findSome? (fun g => (s.dueCommit fired g).map (fun d => (g, d))) = none := by
      rw [List.findSome?_eq_none_iff]
      intro g _
      rw [h g]
      rfl
    unfold State.runCommits
    rw [hn]

/-- With every anchor live, an event owes no commit with cause ANCHOR_ENDED. -/
theorem State.runEndedCommits_of_anchorsLive (s : State) (h : s.AnchorsLive) : s.runEndedCommits = s := by
  refine State.runCommits_of_none_due 7 [] s fun g => ?_
  have hg := h g
  unfold State.dueCommit
  split
  · rename_i anchor replace heq
    rw [heq] at hg
    simpa using hg
  · rfl

/-- With every anchor live and no commit pending on slot `n`, its LEAD release hands over no commit. -/
theorem State.runFiredCommits_of_anchorsLive (s : State) (n : SlotNo) (h : s.AnchorsLive)
    (hn : ∀ (g : GroupNo) (anchor : SlotNo) (replace : Bool),
      (s.group g).state = .pending anchor replace → anchor ≠ n) : s.runFiredCommits n = s := by
  have hp : s.pendingOn n = [] := by
    unfold State.pendingOn
    rw [List.filter_eq_nil_iff]
    intro g _
    split
    · rename_i anchor replace heq
      simpa using hn g anchor replace heq
    · simp
  unfold State.runFiredCommits
  rw [hp]
  exact s.runEndedCommits_of_anchorsLive h

/-! ### The end of an execution (R173 to R175) -/

theorem State.finish_error (s : State) (code : ResultCode) : s.finish (.error code) = s.refused code := rfl

theorem State.finish_ok (s after : State) (bytes : List Byte) : s.finish (.ok (after, bytes)) = after.accepted bytes := by
  unfold State.finish State.accepted State.endExecution State.writeResult resultBytes
  rfl

/-- An execution ends refused, with nothing else changed, or accepted with its bytes in the result buffer. -/
theorem State.finish_cases (s : State) (reply : Reply) :
    (∃ code, reply = .error code ∧ s.finish reply = s.refused code) ∨
    (∃ after bytes, reply = .ok (after, bytes) ∧ s.finish reply = after.accepted bytes) := by
  cases reply with
  | error code => exact .inl ⟨code, rfl, s.finish_error code⟩
  | ok r =>
    obtain ⟨after, bytes⟩ := r
    exact .inr ⟨after, bytes, rfl, s.finish_ok after bytes⟩

end Sys2Proof.Machine
end

