-- ==== Sys2Proof/WellFormed.lean ====
section
/-! DEFINITION. The one check on a command that its operand types do not already make: a REGISTER_WRITE names a
location that has no row of its own. -/

namespace Sys2Proof

/-- The offset of a location whose write has a row of its own: CMD, ACKCAUSE, CAUSEEN, LOGMARK and GROUPDONE (R167). -/
def hasOwnRow (offset : BitVec 5) : Bool :=
  offset == 0x00#5 || offset == 0x01#5 || offset == 0x02#5 || offset == 0x03#5 || offset == 0x08#5

/-- A well-formed command. Slot, line and channel numbers are in range by their types; a REGISTER_WRITE is well formed
when its location is a parameter byte or one whose write is ignored (R167, R169). -/
def Instr.wellFormed : Instr → Bool
  | .taking _ => true
  | .post => true
  | .cancel => true
  | .commit => true
  | .discard => true
  | .channel => true
  | .line => true
  | .force => true
  | .timebaseStart => true
  | .timebaseStop => true
  | .timebaseLoad => true
  | .timebaseSource => true
  | .lateness => true
  | .flush => true
  | .quiesce => true
  | .inspectSlot => true
  | .inspectGroup => true
  | .inspectChannel => true
  | .inspectLines => true
  | .inspectTime => true
  | .badcmd => true
  | .donepop => true
  | .logpop => true
  | .ackcause _ => true
  | .causeen _ => true
  | .logmark _ => true
  | .groupdone _ => true
  | .registerWrite offset _ => !hasOwnRow offset
  | .hardwareReset => true
  | .sourceEdge _ => true
  | .advance => true
  | .edge _ _ => true
  | .watchExpiry _ => true
  | .referenceExpiry _ => true
  | .leadRelease => true
  | .endRelease => true

end Sys2Proof
end

