-- ==== Sys2Proof/Tests/Slice0.lean ====
section
/-! SUPPORT. The model's own tests: ill-formed commands refused, single steps with expected values worked out from the
rules of spec/, and for each statement with hypotheses a state and operands that meet them. -/

namespace Sys2Proof.Tests

open Sys2Proof.Machine

/-! ### Ill-formed commands (R167) -/

theorem test_registerWrite_at_cmd_ill_formed : (Instr.registerWrite 0x00 0x01).wellFormed = false := by decide
theorem test_registerWrite_at_ackcause_ill_formed : (Instr.registerWrite 0x01 0x10).wellFormed = false := by decide
theorem test_registerWrite_at_causeen_ill_formed : (Instr.registerWrite 0x02 0x1F).wellFormed = false := by decide
theorem test_registerWrite_at_logmark_ill_formed : (Instr.registerWrite 0x03 0x18).wellFormed = false := by decide
theorem test_registerWrite_at_groupdone_ill_formed : (Instr.registerWrite 0x08 0x02).wellFormed = false := by decide
theorem test_registerWrite_at_param_well_formed : (Instr.registerWrite 0x1F 0xFF).wellFormed = true := by decide
theorem test_registerWrite_ignored_well_formed : (Instr.registerWrite 0x04 0xFF).wellFormed = true := by decide
theorem test_no_word_decodes : Sys2Proof.decodeTableWord 8 0x01 = none := by decide

/-! ### Helpers -/

/-- The state after a command. -/
def after (c : Instr) (s : State) : State :=
  match exec c s with
  | .next t => t
  | .fault f => nomatch f
  | .refused _ => State.reset

/-- A taken command waits: its code and the first bytes of its latch, 0x00 in the rest. -/
def taken (code : Byte) (params : List Byte) (s : State) : State :=
  { s with cu := { s.cu with code := code, busy := true, latch := Vector.ofFn (fun k => params.getD k.val 0) } }

/-- The timebase RUNNING at a value. -/
def at_ (value : Nat) (s : State) : State :=
  { s with tb := { s.tb with value := BitVec.ofNat 32 value, state := .running } }

/-- A single SET of O0, ABS. -/
def setAction : Action where
  kind := .set
  mode := .abs
  logOption := false
  rearm := false
  line := some 0
  channel := none
  group := none
  tag := 0x5A
  timeValue := 1000
  width := none
  count := 1
  period := 0

/-- A single PULSE of O2, width 250, with the LOG option. -/
def pulseAction : Action := { setAction with kind := .pulse, line := some 2, width := some 250, logOption := true }

/-- A STROBE of O3 answered on I1, count 3, period 1000, width 500. -/
def strobeAction : Action :=
  { setAction with kind := .strobe, line := some 3, channel := some 1, width := some 500, count := 3, period := 1000 }

/-- A NOTE launched by I0, offset 40, REARM. -/
def noteAction : Action :=
  { setAction with kind := .note, mode := .trig, line := none, channel := some 0, timeValue := 40, rearm := true }

/-- What a slot holds right after its POST. -/
def fresh (a : Action) : Held := a.posted

/-- `s` with a slot in a given state. -/
def holding (n : SlotNo) (x : Slot) (s : State) : State := s.setSlot n x

/-- A part in which nothing is pending and the timebase is RUNNING at 1300. -/
def quiet : State := at_ 1300 State.reset

/-- A part at work: slot 0 a SET of group 1 SCHEDULED and due, slot 1 a NOTE PARKED on I0, slot 2 a PULSE ACTIVE on O2,
slot 3 a STROBE ACTIVE on O3 and I1, slot 4 COMPLETE, slot 5 a SET OPEN in group 2, which is FILLING. -/
def part : State :=
  let s := at_ 1300 State.reset
  let s := holding 0 (.scheduled (fresh { setAction with group := some 0 }) 1300) s
  let s := holding 1 (.parked (fresh noteAction)) s
  let s := holding 2 (.active { fresh pulseAction with remaining := 0 } 1100 1100 0) s
  let s := holding 3 (.active { fresh strobeAction with remaining := 2 } 1200 1200 0) s
  let s := holding 4 (.complete { fresh setAction with remaining := 0, fired := 1 } .done 900) s
  let s := holding 5 (.opened (fresh { setAction with group := some 1 })) s
  let s := s.setCalendar [⟨0, .lead, 1300, 0⟩, ⟨2, .trailing, 1350, 0⟩, ⟨3, .trailing, 1700, 0⟩]
  let s := s.setLine 2 { isActive := true, polarity := .activeHigh, claim := some 2 }
  let s := s.setLine 3 { isActive := true, polarity := .activeHigh, claim := some 3 }
  let s := s.setChannel 0 { Channel.afterReset with parked := [1] }
  let s := s.setChannel 1 { Channel.afterReset with mode := .ack, ackClaim := some 3 }
  let s := s.setGroup 1 { Group.afterReset with state := .filling, openList := [5] }
  { s with doneQueue := [4] }

/-- The part at work with group 3 PENDING on slot 0. -/
def anchored : State := part.setGroup 2 { Group.afterReset with state := .pending 0 false }

/-- A part whose /RESET is held asserted, with bytes on its last pop. -/
def heldReset : State := { State.reset with resetPin := .asserted, busData := 0x55 }

/-- A capture record. -/
def capture : Capture where
  source := .channel 3
  kind := .stamp
  edge := true
  violation := false
  overrun := false
  tag := 0
  timestamp := 0x01020304
  interval := none
  extra := 0

/-- No commit waits where no group is PENDING. -/
theorem noCommitWaits_of_none_pending (s : State) (n : SlotNo)
    (h : ∀ g : GroupNo, (s.group g).state = .empty ∨ (s.group g).state = .filling) : s.NoCommitWaitsFor n := by
  constructor
  · intro g
    rcases h g with e | e <;> rw [e] <;> trivial
  · intro g anchor replace e
    rcases h g with e' | e' <;> rw [e'] at e <;> cases e

theorem anchorsLive_of_none_pending (s : State)
    (h : ∀ g : GroupNo, (s.group g).state = .empty ∨ (s.group g).state = .filling) : s.AnchorsLive :=
  (noCommitWaits_of_none_pending s 0 h).1

/-! ### Single steps -/

-- R171: the byte is the code, the parameters are latched, CMD clears.
theorem test_taking_latches : (after (.taking 0x0A) { State.reset with cmdCause := true }).cu.busy = true ∧
    (after (.taking 0x0A) { State.reset with cmdCause := true }).cmdCause = false := by decide
theorem test_taking_while_busy : (after (.taking 0x0B) (taken 0x0A [] State.reset)).cu.code = 0x0A ∧
    (after (.taking 0x0B) (taken 0x0A [] State.reset)).cu.overrun = true := by decide

-- R10, R11: a POST of an ABS PULSE of O2 at 1000 with group 0 is SCHEDULED at 1000 in slot 0.
theorem test_post_abs :
    (after .post (taken 0x01 [4, 0x40, 2, 0, 0x5A, 0xE8, 0x03, 0, 0, 250, 0, 1, 0] State.reset)).slot 0
      = .scheduled (fresh pulseAction) 1000 := by decide
-- R8: check 2 comes before check 3.
theorem test_post_first_check :
    (after .post (taken 0x01 [1, 0x80, 16] State.reset)).cu.resultCode = .badMode := by decide

-- R17: a CANCEL of an ACTIVE PULSE frees its line and returns the state found, ACTIVE.
theorem test_cancel_active : (after .cancel (taken 0x02 [2] part)).line 2
    = { isActive := false, polarity := .activeHigh, claim := none } := by decide
theorem test_cancel_complete : (after .cancel (taken 0x02 [4] part)).cu.resultCode = .notLive := by decide

-- R97: a member's first run; the SET of group 2 is placed at its time value.
theorem test_commit_now : (after .commit (taken 0x03 [2, 0, 0] part)).slot 5
    = .scheduled (fresh { setAction with group := some 1 }) 1000 := by decide
-- R90, check 5.
theorem test_commit_empty_group : (after .commit (taken 0x03 [7, 0, 0] part)).cu.resultCode = .emptyGroup := by decide

theorem test_discard : (after .discard (taken 0x04 [2] part)).slot 5 = .free ∧
    (after .discard (taken 0x04 [2] part)).cu.result.get 0 = 1 := by decide

-- R112: the configuration replaced; the limit least significant byte first.
theorem test_channel : ((after .channel (taken 0x05 [0, 2, 2, 0xE8, 0x03, 0, 0, 1, 2, 1] part)).channel 0)
    = { mode := .period, edge := .both, limit := 1000, sense := .longer, policy := .all, launchSource := .violation,
        reference := none, watch := none, violationMark := false, ackClaim := none, parked := [1] } := by decide
theorem test_channel_unnamed_policy :
    (after .channel (taken 0x05 [0, 2, 2, 0, 0, 0, 0, 1, 3, 1] part)).cu.resultCode = .badCfg := by decide

theorem test_line_active_low : (after .line (taken 0x06 [5, 1] part)).outputPin 5 = true := by decide
theorem test_line_claimed : (after .line (taken 0x06 [2, 1] part)).cu.resultCode = .lineBusy := by decide

-- R79: BREAK of a STROBE releases the ack claim of its channel.
theorem test_force_break : ((after .force (taken 0x07 [3, 1, 1] part)).channel 1).ackClaim = none ∧
    ((after .force (taken 0x07 [3, 1, 1] part)).line 3).isActive = true := by decide
theorem test_force_without_break : (after .force (taken 0x07 [3, 0, 0] part)).cu.resultCode = .lineBusy := by decide

theorem test_timebase_start : (after .timebaseStart (taken 0x08 [0] State.reset)).tb.state = .running := by decide
-- R31: the STOP clears the references.
theorem test_timebase_stop : ((after .timebaseStop (taken 0x08 [1]
    (part.setChannel 2 { Channel.afterReset with mode := .period, reference := some 5 }))).channel 2).reference
      = none := by decide
theorem test_timebase_load : (after .timebaseLoad (taken 0x08 [2, 0x10, 0x27, 0, 0] State.reset)).now = 10000 := by
  decide
-- R29: PARAM6 holds prescale - 1.
theorem test_timebase_source :
    (after .timebaseSource (taken 0x08 [3, 0, 0, 0, 0, 1, 255] State.reset)).tb.prescale = 256 := by decide

theorem test_lateness : (after .lateness (taken 0x09 [0x2C, 0x01] part)).latenessLimit = 300 := by decide

theorem test_flush : (after .flush (taken 0x0A [] { part with log := [capture, { capture with overrun := true }] })).log
    = [] := by decide

-- R178: four slots completed, one OPEN slot freed.
theorem test_quiesce_counts : (after .quiesce (taken 0x0B [] part)).cu.result.get 0 = 4 ∧
    (after .quiesce (taken 0x0B [] part)).cu.result.get 1 = 1 := by decide

-- R185: the state, the kind, the line, and the remaining attempts.
theorem test_inspectSlot : (after .inspectSlot (taken 0x0C [0, 3] part)).cu.result.get 0 = 4 ∧
    (after .inspectSlot (taken 0x0C [0, 3] part)).cu.result.get 4 = 1 ∧
    (after .inspectSlot (taken 0x0C [0, 3] part)).cu.result.get 12 = 2 := by decide
theorem test_inspectGroup : (after .inspectGroup (taken 0x0C [1, 3] anchored)).cu.result.get 0 = 2 ∧
    (after .inspectGroup (taken 0x0C [1, 1] anchored)).cu.result.get 2 = 1 := by decide
theorem test_inspectChannel : (after .inspectChannel (taken 0x0C [2, 1] part)).cu.result.get 0 = 4 ∧
    (after .inspectChannel (taken 0x0C [2, 1] part)).cu.result.get 2 = 3 := by decide
theorem test_inspectLines : (after .inspectLines (taken 0x0C [3] part)).cu.result.get 0 = 0x0C ∧
    (after .inspectLines (taken 0x0C [3] part)).cu.result.get 2 = 0x0C := by decide
theorem test_inspectTime : (after .inspectTime (taken 0x0C [4] part)).cu.result.get 0 = 0x14 ∧
    (after .inspectTime (taken 0x0C [4] part)).cu.result.get 7 = 3 := by decide

theorem test_badcmd : (after .badcmd (taken 0x0D [] part)).cu.resultCode = .badCmd := by decide

-- R149, R183: slot number, status DONE, kind SET, line O0; the slot is FREE.
theorem test_donepop : (after .donepop part).busData = 4 ∧ (after .donepop part).slot 4 = .free := by decide
theorem test_donepop_record : (after .donepop part).cu.result.toList.take 4 = [4, 1, 0x5A, 1] := by decide

-- R184: source 128 + 3, kind STAMP, flags, tag, timestamp least significant byte first.
theorem test_logpop : (after .logpop { part with log := [capture] }).cu.result.toList.take 8
    = [0x83, 1, 1, 0, 0x04, 0x03, 0x02, 0x01] := by decide
theorem test_logpop_busy : (after .logpop (taken 0x0A [] { part with log := [capture] })).busData = 0xFE := by decide

theorem test_ackcause : (after (.ackcause 0x10) { part with cmdCause := true }).cmdCause = false ∧
    (after (.ackcause 0xEF) { part with cmdCause := true }).cmdCause = true := by decide
theorem test_causeen : (after (.causeen 0xE1) part).causeEnables = 1 ∧
    (after (.causeen 0xE1) part).irqAsserted = true := by decide
-- R158: a write of 40 reads back as 32.
theorem test_logmark : (after (.logmark 40) part).readWindow 0x03 = 32 := by decide
theorem test_groupdone : ((after (.groupdone 0x02) (part.setGroup 0 { Group.afterReset with done := true })).group 0).done
    = false := by decide
theorem test_registerWrite : (after (.registerWrite 0x1F 0xAB) part).cu.params.get 15 = 0xAB := by decide
theorem test_hardwareReset : (after .hardwareReset part).slot 3 = .free := by decide
-- R168: while /RESET is asserted a write has no effect and a read returns 0x00; after the release the window works again.
theorem test_hardwareReset_held :
    (after (.taking 0x0A) heldReset).cu.busy = false ∧ (after .donepop heldReset).busData = 0x00 ∧
    heldReset.readWindow 0x03 = 0x00 ∧ (after (.taking 0x0A) (after .hardwareReset heldReset)).cu.busy = true := by decide

-- R22: prescale 1, so each edge makes an advance due.
theorem test_sourceEdge : (after (.sourceEdge .clk) part).tb.advanceDue = true ∧
    (after (.sourceEdge .tcnt) part).tb.advanceDue = false := by decide
-- R21: the value wraps at 2^32.
theorem test_advance_wraps : (after .advance
    { State.reset with tb := { Timebase.afterReset with state := .running, value := 0xFFFFFFFF, advanceDue := true } }).now
      = 0 := by decide

-- R117, R119: the first edge opens an interval, and the watch stands at the reference plus the limit.
theorem test_edge_period : ((after (.edge 2 .rising) (part.setChannel 2
    { Channel.afterReset with mode := .period, limit := 1000, sense := .longer })).channel 2).watch
      = some 2300 := by decide
-- R137: an acknowledge at 1300 of the lead at 1200: latency 100, re-armed at the lead due plus the period.
theorem test_edge_acknowledge : (after (.edge 1 .rising) part).slot 3
    = .scheduled { fresh strobeAction with remaining := 2, ackLatency := 100 } 2200 := by decide
-- R122: the launch takes the deadline as its trigger.
theorem test_watchExpiry : (after (.watchExpiry 0) (part.setChannel 0
    { Channel.afterReset with mode := .period, limit := 50, sense := .longer, launchSource := .violation,
                              reference := some 1250, watch := some 1300, parked := [1] })).slot 1
      = .scheduled (fresh noteAction) 1340 := by decide
theorem test_referenceExpiry : ((after (.referenceExpiry 0) (part.setChannel 0
    { Channel.afterReset with mode := .period, reference := some (1300 - 2147483647) })).channel 0).reference
      = none := by decide

-- R63, R66: the due SET fires and, with count 1, completes.
theorem test_leadRelease : ((after .leadRelease part).line 0).isActive = true ∧
    (after .leadRelease part).doneQueue = [4, 0] := by decide
theorem test_leadRelease_collided : (after .leadRelease
    (part.setSlot 0 (.scheduled (fresh { setAction with line := some 2 }) 1300))).slot 0
      = .complete { fresh { setAction with line := some 2 } with remaining := 0 } .collided 1300 := by decide
/-- The part at 1300 with slot 0 SCHEDULED 2^31 + 5 ticks behind, with two attempts at period 3. -/
def farBehind : State :=
  let a := { setAction with count := 2, period := 3 }
  (part.setSlot 0 (.scheduled (fresh a) (1300 - 2147483653))).setCalendar [⟨0, .lead, 1300 - 2147483653, 5⟩]

-- R38, R52, R71: the re-arm of such an entry is 2 ticks beyond -2^31 and due, at the old due time plus the period.
theorem test_leadRelease_far_behind : (after .leadRelease farBehind).calendar = [⟨0, .lead, 1300 - 2147483650, 2⟩] ∧
    (after .leadRelease farBehind).calendar.map (Entry.distance 1300) = [-2147483648] := by decide
-- R71, R75: a PULSE whose lead was 2^31 late re-arms behind after its trail, 50 ticks late at width 250 and period 260.
theorem test_endRelease_far_behind :
    let a := { pulseAction with count := 2, period := 260 }
    (after .endRelease (at_ 1300 ((part.setSlot 2 (.active { fresh a with remaining := 1 } (1000 - 2147483648) 1000 0)).setCalendar
      [⟨2, .trailing, 1250, 0⟩]))).calendar = [⟨2, .lead, 1260 - 2147483648, 40⟩] := by decide

-- R75: the trail of a single PULSE completes it DONE.
theorem test_endRelease : (after .endRelease (at_ 1350 (part.setCalendar [⟨2, .trailing, 1350, 0⟩]))).slot 2
    = .complete { fresh pulseAction with remaining := 0 } .done 1350 := by decide
-- R139: the timeout of a STROBE completes it TIMEOUT whatever its count.
theorem test_endRelease_timeout : (after .endRelease (at_ 1700 (part.setCalendar [⟨3, .trailing, 1700, 0⟩]))).slot 3
    = .complete { fresh strobeAction with remaining := 2 } .timeout 1700 := by decide

/-! ### Witnesses: states and operands that meet the hypotheses of a statement

Each is named after its statement; a statement with several clauses has one for each, at a boundary of its range. -/

theorem part_none_pending : ∀ g : GroupNo, (part.group g).state = .empty ∨ (part.group g).state = .filling := by decide

/-- Every state that `taken` builds has its command waiting: the first two hypotheses of each statement on an execution. -/
theorem taken_waits (code : Byte) (params : List Byte) (s : State) :
    (taken code params s).cu.busy = true ∧ (taken code params s).cu.code = code := ⟨rfl, rfl⟩

theorem test_witness_StepRunsFrontOfQueue : State.reset.pending = [] := by decide

theorem test_witness_WindowReads :
    heldReset.resetPin = .asserted ∧ part.resetPin = .released ∧ (9 ≤ 9 ∧ 9 ≤ 15) ∧ (9 ≤ 15 ∧ 15 ≤ 15) := by decide

theorem test_witness_HardwareReset : heldReset.resetPin = .asserted := by decide

theorem test_witness_TakingLatchesTheCommand :
    (State.reset.resetPin = .released ∧ State.reset.cu.busy = false) ∧
    ((taken 0x01 [] part).resetPin = .released ∧ (taken 0x01 [] part).cu.busy = true) := by decide

theorem test_witness_ParameterBuffer_taking :
    State.reset.resetPin = .released ∧ State.reset.cu.busy = false ∧
    exec (.taking 0xFF) State.reset = .next (after (.taking 0xFF) State.reset) :=
  ⟨by decide, by decide, rfl⟩
theorem test_witness_ParameterBuffer_reset : exec .hardwareReset part = .next (after .hardwareReset part) := rfl
theorem test_witness_ParameterBuffer_other :
    Instr.registerWrite 0x0F 0xFF ≠ .hardwareReset ∧
    (∀ o v, Instr.registerWrite 0x0F 0xFF = .registerWrite o v → o.toNat < 16) ∧
    exec (.registerWrite 0x0F 0xFF) part = .next (after (.registerWrite 0x0F 0xFF) part) := by
  refine ⟨by decide, ?_, rfl⟩
  intro o v h
  cases h
  decide

theorem test_witness_OtherWindowWrites :
    part.resetPin = .released ∧
    (4 ≤ (0x04#5).toNat ∧ (0x04#5).toNat < 16 ∧ 0x04#5 ≠ 0x08#5) ∧
    (4 ≤ (0x0F#5).toNat ∧ (0x0F#5).toNat < 16 ∧ 0x0F#5 ≠ 0x08#5) := by decide

theorem test_witness_Ackcause_write_first :
    (taken 0x0A [] part).resetPin = .released ∧ Instr.flush ∈ executionRows ∧
    (taken 0x0A [] part).cu.busy = true ∧ (0x10#8).getLsbD 4 = true ∧
    exec (.ackcause 0x10) (taken 0x0A [] part) = .next (after (.ackcause 0x10) (taken 0x0A [] part)) ∧
    exec .flush (after (.ackcause 0x10) (taken 0x0A [] part))
      = .next (after .flush (after (.ackcause 0x10) (taken 0x0A [] part))) ∧
    (after .flush (after (.ackcause 0x10) (taken 0x0A [] part))).cu.busy = false :=
  ⟨by decide, by decide, by decide, by decide, rfl, rfl, by decide⟩
theorem test_witness_Ackcause_end_first :
    (taken 0x0A [] part).resetPin = .released ∧ Instr.flush ∈ executionRows ∧
    (taken 0x0A [] part).cu.busy = true ∧ (0x10#8).getLsbD 4 = true ∧
    exec .flush (taken 0x0A [] part) = .next (after .flush (taken 0x0A [] part)) ∧
    (after .flush (taken 0x0A [] part)).cu.busy = false ∧
    exec (.ackcause 0x10) (after .flush (taken 0x0A [] part))
      = .next (after (.ackcause 0x10) (after .flush (taken 0x0A [] part))) :=
  ⟨by decide, by decide, by decide, by decide, rfl, by decide, rfl⟩

theorem test_witness_Causeen : part.resetPin = .released ∧ (0 : Nat) < 5 ∧ (4 : Nat) < 5 := by decide

theorem test_witness_Logmark : part.resetPin = .released := by decide

theorem test_witness_Donepop :
    (taken 0x01 [] part).resetPin = .released ∧
    (taken 0x01 [] part).cu.busy = true ∧ (State.reset.cu.busy = false ∧ State.reset.doneQueue = []) ∧
    (part.cu.busy = false ∧ part.doneQueue = 4 :: [] ∧
      part.slot 4 = .complete { fresh setAction with remaining := 0, fired := 1 } .done 900) := by decide

theorem test_witness_Logpop :
    ({ part with log := [capture] }).resetPin = .released ∧
    (taken 0x01 [] part).cu.busy = true ∧ (State.reset.cu.busy = false ∧ State.reset.log = []) ∧
    ({ part with log := [capture] }.cu.busy = false ∧ { part with log := [capture] }.log = capture :: []) := by decide

theorem test_witness_ExecutionNeeds :
    (part.cu.busy = false ∧ Instr.badcmd ∈ executionRows) ∧ (taken 0x02 [] part).cu.code.toNat ≠ 1 ∧
    ((taken 0x00 [] part).cu.busy = true ∧ (taken 0x00 [] part).cu.code.toNat = 0) ∧
    ((taken 0x0D [] part).cu.busy = true ∧ 12 < (taken 0x0D [] part).cu.code.toNat) ∧
    (1 ≤ (taken 0x01 [] part).cu.code.toNat ∧ (taken 0x0C [] part).cu.code.toNat ≤ 12) := by decide

theorem test_witness_RefusedCommand :
    Instr.post ∈ executionRows ∧ (taken 0x01 [] part).cu.busy = true ∧
    exec .post (taken 0x01 [] part) = .next (after .post (taken 0x01 [] part)) ∧
    (after .post (taken 0x01 [] part)).cu.busy = false ∧
    (after .post (taken 0x01 [] part)).cu.resultCode ≠ .ok :=
  ⟨by decide, by decide, rfl, by decide, by decide⟩

/-- A POST of the PULSE of O2 waits. -/
def posting : State := taken 0x01 [4, 0x40, 2, 0, 0x5A, 0xE8, 0x03, 0, 0, 250, 0, 1, 0] part

theorem test_witness_PostResultCode : posting.cu.busy = true ∧ posting.cu.code = 0x01 := by decide

theorem test_witness_PostTakes : posting.checkPost.toOption = some (pulseAction, 6) := by decide

/-- POSTs of the four forms: into group 3, ABS, REL and TRIG. -/
def postGroup : State := taken 0x01 [1, 0, 15, 0x18, 0, 0, 0, 0, 0, 0, 0, 1, 0] part
def postAbs : State := taken 0x01 [1, 0, 15, 0, 0, 0xFF, 0xFF, 0xFF, 0xFF, 0, 0, 1, 0] part
def postRel : State := taken 0x01 [1, 1, 15, 0, 0, 0xFF, 0xFF, 0xFF, 0x7F, 0, 0, 1, 0] part
def postTrig : State := taken 0x01 [6, 0x82, 0, 7, 0, 40, 0, 0, 0, 0, 0, 1, 0] part

theorem test_witness_PostOpens_group : postGroup.cu.busy = true ∧ postGroup.cu.code = 0x01 ∧
    (postGroup.checkPost.toOption.map (·.1.group)) = some (some 2) := by decide
theorem test_witness_PostOpens_abs : postAbs.cu.busy = true ∧ postAbs.cu.code = 0x01 ∧
    (postAbs.checkPost.toOption.map (fun r => (r.1.group, r.1.mode))) = some (none, .abs) := by decide
theorem test_witness_PostOpens_rel : postRel.cu.busy = true ∧ postRel.cu.code = 0x01 ∧
    (postRel.checkPost.toOption.map (fun r => (r.1.group, r.1.mode))) = some (none, .rel) := by decide
theorem test_witness_PostOpens_trig : postTrig.cu.busy = true ∧ postTrig.cu.code = 0x01 ∧
    (postTrig.checkPost.toOption.map (fun r => (r.1.group, r.1.mode, r.1.channel))) = some (none, .trig, some 7) := by
  decide

theorem test_witness_CancelRefusals :
    (63 < ((taken 0x02 [64] part).param 0).toNat) ∧
    (((taken 0x02 [63] part).param 0).toNat = (63 : SlotNo).val ∧ (taken 0x02 [63] part).slot 63 = .free) ∧
    (((taken 0x02 [4] part).param 0).toNat = (4 : SlotNo).val ∧ (taken 0x02 [4] part).slot 4
      = .complete { fresh setAction with remaining := 0, fired := 1 } .done 900) ∧
    (((taken 0x02 [5] part).param 0).toNat = (5 : SlotNo).val ∧
      (taken 0x02 [5] part).slot 5 = .opened (fresh { setAction with group := some 1 }) ∧
      (fresh { setAction with group := some 1 }).action.group = some 1) := by decide

theorem test_witness_CancelEnds_scheduled :
    ((taken 0x02 [0] part).cu.busy = true ∧ (taken 0x02 [0] part).cu.code = 0x02 ∧
      ((taken 0x02 [0] part).param 0).toNat = (0 : SlotNo).val ∧
      (taken 0x02 [0] part).slot 0 = .scheduled (fresh { setAction with group := some 0 }) 1300) ∧
    (taken 0x02 [0] part).NoCommitWaitsFor 0 :=
  ⟨by decide, noCommitWaits_of_none_pending _ 0 part_none_pending⟩
theorem test_witness_CancelEnds_parked :
    (((taken 0x02 [1] part).param 0).toNat = (1 : SlotNo).val ∧
      (taken 0x02 [1] part).slot 1 = .parked (fresh noteAction) ∧ (fresh noteAction).action.channel = some 0) ∧
    (taken 0x02 [1] part).NoCommitWaitsFor 1 :=
  ⟨by decide, noCommitWaits_of_none_pending _ 1 part_none_pending⟩
theorem test_witness_CancelEnds_pulse :
    (((taken 0x02 [2] part).param 0).toNat = (2 : SlotNo).val ∧
      (taken 0x02 [2] part).slot 2 = .active { fresh pulseAction with remaining := 0 } 1100 1100 0 ∧
      pulseAction.line = some 2 ∧ pulseAction.kind = .pulse) ∧
    (taken 0x02 [2] part).NoCommitWaitsFor 2 :=
  ⟨by decide, noCommitWaits_of_none_pending _ 2 part_none_pending⟩
theorem test_witness_CancelEnds_strobe :
    (((taken 0x02 [3] part).param 0).toNat = (3 : SlotNo).val ∧
      (taken 0x02 [3] part).slot 3 = .active { fresh strobeAction with remaining := 2 } 1200 1200 0 ∧
      strobeAction.line = some 3 ∧ strobeAction.kind = .strobe ∧ strobeAction.channel = some 1) ∧
    (taken 0x02 [3] part).NoCommitWaitsFor 3 :=
  ⟨by decide, noCommitWaits_of_none_pending _ 3 part_none_pending⟩

/-- The part at work with group 3 PENDING on slot `n` with the replace flag, slot 6 OPEN in group 3. -/
def waitingOn (n : SlotNo) (s : State := part) : State :=
  (s.setSlot 6 (.opened (fresh { setAction with group := some 2 }))).setGroup 2
    { Group.afterReset with state := .pending n true, openList := [6] }

theorem test_witness_EndedAnchor_order :
    ((waitingOn 4).group 2).state = .pending 4 true ∧ ((waitingOn 4).slot 4).isLive = false ∧
    (∀ k : GroupNo, k < 2 → ∀ a b,
      ¬ (((waitingOn 4).group k).state = .pending a b ∧ ((waitingOn 4).slot a).isLive = false)) ∧
    (∀ k : GroupNo, ∀ a b, ¬ ((part.group k).state = .pending a b ∧ (part.slot a).isLive = false)) := by
  refine ⟨by decide, by decide, ?_, ?_⟩ <;> · intro k; decide +revert

theorem test_witness_EndedAnchor_cancel :
    let s := taken 0x02 [0] (waitingOn 0)
    (s.cu.busy = true ∧ s.cu.code = 0x02 ∧ (s.param 0).toNat = (0 : SlotNo).val ∧ (s.slot 0).isLive = true ∧
      (s.group 2).state = .pending 0 true) ∧ s.OpenListsHold := by
  decide

theorem test_witness_EndedAnchor_force :
    let s := taken 0x07 [2, 1, 1] (waitingOn 2)
    (s.cu.busy = true ∧ s.cu.code = 0x07 ∧ (s.param 0).toNat = (2 : LineNo).val ∧ (s.param 1).toNat ≤ 1 ∧
      (s.param 2).getLsbD 0 = true ∧ (s.line 2).claim = some 2 ∧
      s.slot 2 = .active { fresh pulseAction with remaining := 0 } 1100 1100 0 ∧
      (s.group 2).state = .pending 2 true) ∧ s.OpenListsHold := by decide

theorem test_witness_EndedAnchor_timeout :
    let s := at_ 1700 ((waitingOn 3).setCalendar [⟨3, .trailing, 1700, 0⟩])
    (s.tb.state = .running ∧ s.calendar = [⟨3, .trailing, 1700, 0⟩] ∧
      (⟨3, .trailing, 1700, 0⟩ : Entry).distance s.now ≤ 0 ∧
      s.slot 3 = .active { fresh strobeAction with remaining := 2 } 1200 1200 0 ∧ strobeAction.kind = .strobe ∧
      (s.group 2).state = .pending 3 true) ∧ s.OpenListsHold := by decide
theorem test_witness_EndedAnchor_trail :
    let s := at_ 1350 ((waitingOn 2).setCalendar [⟨2, .trailing, 1350, 0⟩])
    (s.tb.state = .running ∧ s.calendar = [⟨2, .trailing, 1350, 0⟩] ∧
      (⟨2, .trailing, 1350, 0⟩ : Entry).distance s.now ≤ 0 ∧
      s.slot 2 = .active { fresh pulseAction with remaining := 0 } 1100 1100 0 ∧
      (s.group 2).state = .pending 2 true) ∧ s.OpenListsHold ∧
    { fresh pulseAction with remaining := 0 }.completesNext :=
  ⟨by decide, by decide, Or.inr (by decide)⟩

theorem test_witness_EndedAnchor_acknowledge :
    let s := waitingOn 3 (part.setSlot 3 (.active { fresh strobeAction with remaining := 0 } 1200 1200 0))
    (s.tb.state = .running ∧ (s.channel 1).mode = .ack ∧ (s.channel 1).edge = .rise ∧ (s.channel 1).ackClaim = some 3 ∧
      s.slot 3 = .active { fresh strobeAction with remaining := 0 } 1200 1200 0 ∧
      (s.group 2).state = .pending 3 true) ∧ s.OpenListsHold ∧
    { fresh strobeAction with remaining := 0 }.completesNext :=
  ⟨by decide, by decide, Or.inr (by decide)⟩

theorem test_witness_EndedAnchor_commit :
    let s := taken 0x03 [1, 0, 1] (waitingOn 0)
    (s.cu.busy = true ∧ s.cu.code = 0x03 ∧ (s.param 0).toNat = (0 : GroupNo).val + 1 ∧ (s.param 1).toNat = 0 ∧
      (s.param 2).getLsbD 0 = true ∧ (s.group 0).state = .empty ∧
      s.slot 0 = .scheduled (fresh { setAction with group := some 0 }) 1300 ∧
      (s.group 2).state = .pending 0 true) ∧ s.OpenListsHold := by decide

theorem test_witness_CommitResultCode :
    (taken 0x03 [7, 1, 1, 63] part).cu.busy = true ∧ (taken 0x03 [7, 1, 1, 63] part).cu.code = 0x03 := by decide

theorem test_witness_CommitAtAnchor :
    let s := taken 0x03 [7, 1, 1, 3] part
    s.cu.busy = true ∧ s.cu.code = 0x03 ∧ (s.param 0).toNat = (6 : GroupNo).val + 1 ∧ (s.param 1).toNat = 1 ∧
    (s.param 3).toNat = (3 : SlotNo).val ∧ (s.group 6).state = .empty ∧ (s.param 2).getLsbD 0 = true ∧
    (s.slot 3).isLive = true := by decide

theorem part_open_lists : part.OpenListsHold := by
  refine ⟨by decide, ?_⟩
  intro n h
  exact ⟨1, by revert n; decide⟩

theorem test_witness_CommitNow :
    (let s := taken 0x03 [2, 0, 0] part;
      s.cu.busy = true ∧ s.cu.code = 0x03 ∧ (s.param 0).toNat = (1 : GroupNo).val + 1 ∧ (s.param 1).toNat = 0 ∧
      (s.param 2).getLsbD 0 = false ∧ (s.group 1).state = .filling) ∧
    (taken 0x03 [2, 0, 0] part).OpenListsHold ∧ (taken 0x03 [2, 0, 0] part).AnchorsLive :=
  ⟨by decide, part_open_lists, anchorsLive_of_none_pending _ part_none_pending⟩

/-- The part with group 1 FILLING, slot 6 OPEN in it, and its placed generation: slots 0 SCHEDULED, 1 PARKED and 2
ACTIVE. -/
def generation : State :=
  let s := holding 1 (.parked (fresh { noteAction with group := some 0 })) part
  let s := holding 2 (.active { fresh { pulseAction with group := some 0 } with remaining := 0 } 1100 1100 0) s
  let s := holding 6 (.opened (fresh { setAction with group := some 0, mode := .rel })) s
  s.setGroup 0 { Group.afterReset with state := .filling, openList := [6] }

theorem generation_none_pending :
    ∀ g : GroupNo, (generation.group g).state = .empty ∨ (generation.group g).state = .filling := by decide

theorem test_witness_Replace :
    (let s := taken 0x03 [1, 0, 1] generation;
      s.cu.busy = true ∧ s.cu.code = 0x03 ∧ (s.param 0).toNat = (0 : GroupNo).val + 1 ∧ (s.param 1).toNat = 0 ∧
      (s.param 2).getLsbD 0 = true ∧ (s.group 0).state = .filling ∧ (s.slot 0).inPlacedGeneration 0 = true ∧
      (s.slot 1).inPlacedGeneration 0 = true ∧ (s.slot 2).inPlacedGeneration 0 = true ∧ (s.slot 6).isOpenIn 0 = true) ∧
    (taken 0x03 [1, 0, 1] generation).OpenListsHold ∧ (∀ n, (taken 0x03 [1, 0, 1] generation).NoCommitWaitsFor n) ∧
    (taken 0x03 [1, 0, 1] generation).AnchorsLive :=
  ⟨by decide, by decide, fun n => noCommitWaits_of_none_pending _ n generation_none_pending,
    anchorsLive_of_none_pending _ generation_none_pending⟩

-- R91, R95: one member placed, two slots superseded, one marked.
theorem test_commit_replace : (after .commit (taken 0x03 [1, 0, 1] generation)).cu.result.get 0 = 1 ∧
    (after .commit (taken 0x03 [1, 0, 1] generation)).cu.result.get 1 = 2 ∧
    (after .commit (taken 0x03 [1, 0, 1] generation)).cu.result.get 2 = 1 := by decide
-- R97: REL, 1000 from the COMMIT's now.
theorem test_commit_places_rel : (generation.commitGroup 0 false .now).slot 6
    = .scheduled (fresh { setAction with group := some 0, mode := .rel }) 2300 := by decide

theorem test_witness_Discard :
    ((taken 0x04 [8] part).cu.busy = true ∧ (taken 0x04 [8] part).cu.code = 0x04 ∧
      7 < ((taken 0x04 [8] part).param 0).toNat) ∧
    ((taken 0x04 [0] part).param 0).toNat = 0 ∧ ((taken 0x04 [2] part).param 0).toNat = (1 : GroupNo).val + 1 ∧
    (taken 0x04 [2] part).OpenListsHold :=
  ⟨by decide, by decide, by decide, part_open_lists⟩

theorem test_witness_Channel :
    (7 < ((taken 0x05 [8] part).param 0).toNat) ∧
    (((taken 0x05 [7, 5] part).param 0).toNat = (7 : ChanNo).val ∧ 4 < ((taken 0x05 [7, 5] part).param 1).toNat) ∧
    (((taken 0x05 [1, 4] part).param 0).toNat = (1 : ChanNo).val ∧ ((taken 0x05 [1, 4] part).channel 1).ackClaim ≠ none ∧
      ((taken 0x05 [1, 4] part).param 1).toNat = 4) ∧
    (((taken 0x05 [7, 4, 2] part).param 0).toNat = (7 : ChanNo).val ∧
      ((taken 0x05 [7, 4, 2] part).channel 7).ackClaim = none) := by decide

theorem test_witness_Line :
    (15 < ((taken 0x06 [16] part).param 0).toNat) ∧
    (((taken 0x06 [15, 2] part).param 0).toNat = (15 : LineNo).val ∧ 1 < ((taken 0x06 [15, 2] part).param 1).toNat) ∧
    (((taken 0x06 [2, 1] part).param 1).toNat ≤ 1 ∧ ((taken 0x06 [2, 1] part).line 2).claim ≠ none) ∧
    (((taken 0x06 [15, 1] part).param 1).toNat ≤ 1 ∧ ((taken 0x06 [15, 1] part).line 15).claim = none) := by decide

theorem test_witness_Force :
    (15 < ((taken 0x07 [16] part).param 0).toNat) ∧
    (((taken 0x07 [15, 2] part).param 0).toNat = (15 : LineNo).val ∧ 1 < ((taken 0x07 [15, 2] part).param 1).toNat) ∧
    (((taken 0x07 [2, 1] part).line 2).claim ≠ none ∧ ((taken 0x07 [2, 1] part).param 2).getLsbD 0 = false) ∧
    ((taken 0x07 [15, 1] part).line 15).claim = none := by decide
theorem test_witness_Force_break :
    (((taken 0x07 [2, 1, 1] part).line 2).claim = some 2 ∧ ((taken 0x07 [2, 1, 1] part).param 2).getLsbD 0 = true ∧
      (taken 0x07 [2, 1, 1] part).slot 2 = .active { fresh pulseAction with remaining := 0 } 1100 1100 0) ∧
    (taken 0x07 [2, 1, 1] part).NoCommitWaitsFor 2 ∧
    (((taken 0x07 [3, 0, 1] part).line 3).claim = some 3 ∧
      (taken 0x07 [3, 0, 1] part).slot 3 = .active { fresh strobeAction with remaining := 2 } 1200 1200 0) ∧
    (taken 0x07 [3, 0, 1] part).NoCommitWaitsFor 3 :=
  ⟨by decide, noCommitWaits_of_none_pending _ 2 part_none_pending, by decide,
    noCommitWaits_of_none_pending _ 3 part_none_pending⟩

theorem test_witness_TimebaseRefusals :
    (3 < ((taken 0x08 [4] part).param 0).toNat) ∧
    (((taken 0x08 [0] part).param 0).toNat = 0 ∧ (taken 0x08 [0] part).tb.state = .running) ∧
    (((taken 0x08 [1] State.reset).param 0).toNat = 1 ∧ (taken 0x08 [1] State.reset).tb.state = .stopped) ∧
    (((taken 0x08 [2] part).param 0).toNat = 2 ∧ (taken 0x08 [2] part).tb.state = .running) ∧
    ((taken 0x08 [2] (after .timebaseStop (taken 0x08 [1] part))).tb.state = .stopped ∧
      (taken 0x08 [2] (after .timebaseStop (taken 0x08 [1] part))).calendar ≠ []) ∧
    (((taken 0x08 [3, 0, 0, 0, 0, 2] part).param 0).toNat = 3 ∧
      1 < ((taken 0x08 [3, 0, 0, 0, 0, 2] part).param 5).toNat) ∧
    (((taken 0x08 [3, 0, 0, 0, 0, 1] part).param 5).toNat ≤ 1 ∧
      (taken 0x08 [3, 0, 0, 0, 0, 1] part).tb.state = .running) := by decide

theorem test_witness_TimebaseOperations :
    (((taken 0x08 [0] State.reset).param 0).toNat = 0 ∧ (taken 0x08 [0] State.reset).tb.state = .stopped) ∧
    (((taken 0x08 [1] part).param 0).toNat = 1 ∧ (taken 0x08 [1] part).tb.state = .running) ∧
    (((taken 0x08 [2] State.reset).param 0).toNat = 2 ∧ (taken 0x08 [2] State.reset).calendar = []) ∧
    (((taken 0x08 [3, 0, 0, 0, 0, 1, 255] State.reset).param 0).toNat = 3 ∧
      ((taken 0x08 [3, 0, 0, 0, 0, 1, 255] State.reset).param 5).toNat ≤ 1) := by decide

theorem test_witness_Lateness :
    (taken 0x09 [0xFF, 0xFF] part).cu.busy = true ∧ (taken 0x09 [0xFF, 0xFF] part).cu.code = 0x09 := by decide

theorem test_witness_CaptureLog :
    { part with log := List.replicate 31 capture }.log.length < 32 ∧
    ({ part with log := List.replicate 31 capture ++ [capture] }.log = List.replicate 31 capture ++ [capture] ∧
      32 ≤ { part with log := List.replicate 31 capture ++ [capture] }.log.length) ∧
    ((taken 0x0A [] part).cu.busy = true ∧ (taken 0x0A [] part).cu.code = 0x0A) := by decide

theorem test_witness_InspectSlot :
    (4 < ((taken 0x0C [5] part).param 0).toNat) ∧
    (((taken 0x0C [0, 64] part).param 0).toNat = 0 ∧ 63 < ((taken 0x0C [0, 64] part).param 1).toNat) ∧
    (((taken 0x0C [0, 63] part).param 1).toNat = (63 : SlotNo).val ∧ (taken 0x0C [0, 63] part).slot 63 = .free) ∧
    (((taken 0x0C [0, 1] part).param 1).toNat = (1 : SlotNo).val ∧
      ((taken 0x0C [0, 1] part).slot 1).held? = some (fresh noteAction)) := by decide

theorem test_witness_InspectOther :
    (4 < ((taken 0x0C [5] part).param 0).toNat) ∧
    (((taken 0x0C [1, 8] part).param 0).toNat = 1 ∧ 7 < ((taken 0x0C [1, 8] part).param 1).toNat ∧
      ((taken 0x0C [1, 0] part).param 1).toNat = 0) ∧
    ((taken 0x0C [1, 7] part).param 1).toNat = (6 : GroupNo).val + 1 ∧
    (((taken 0x0C [2, 8] part).param 0).toNat = 2 ∧ 7 < ((taken 0x0C [2, 8] part).param 1).toNat) ∧
    ((taken 0x0C [2, 7] part).param 1).toNat = (7 : ChanNo).val ∧ ((taken 0x0C [3] part).param 0).toNat = 3 ∧
    ((taken 0x0C [4] part).param 0).toNat = 4 := by decide

theorem test_witness_SourceEdges :
    part.tb.state = .running ∧ part.tb.source = .internal ∧ part.tb.advanceDue = false ∧
    (after (.sourceEdge .clk) part).tb.state = .running ∧ (after (.sourceEdge .clk) part).tb.source = .internal ∧
    (after (.sourceEdge .clk) part).tb.advanceDue = true := by decide

theorem test_witness_Stopped : State.reset.tb.state = .stopped := by decide

theorem test_witness_InsertionOrder :
    part.calendar.Pairwise (fun a b => a.distance part.now ≤ b.distance part.now) := by decide

theorem part_parked_lists : part.ParkedListsHold := by decide

theorem test_witness_Launch : part.ParkedListsHold ∧ (part.channel 0).parked ≠ [] := ⟨part_parked_lists, by decide⟩

theorem test_witness_Continuation :
    { fresh strobeAction with supersedePending := true }.supersedePending = true ∧
    (0 < { fresh strobeAction with remaining := 1 }.remaining.toNat) ∧
    ({ fresh noteAction with remaining := 0 }.remaining.toNat = 0 ∧ noteAction.count.toNat ≠ 0 ∧
      noteAction.rearm = true ∧ noteAction.channel = some 0) ∧
    ({ fresh setAction with remaining := 0 }.remaining.toNat = 0 ∧ setAction.count.toNat ≠ 0 ∧
      setAction.rearm = false) := by decide

/-- A base that lies 5 ticks beyond -2^31 behind now, with a period of 3. -/
theorem test_witness_Continuation_behind :
    (part.now - (1300 - 2147483653) = BitVec.ofNat 32 2147483653) ∧ (3 : Nat) < 2147483653 ∧
    farBehind.PastFloorsHold ∧ farBehind.CalendarOrdered := by decide

/-- The part with a given configuration of channel 2. -/
def withChannel2 (c : Channel) : State := part.setChannel 2 c

theorem test_witness_UnselectedAndStamp :
    part.tb.state = .running ∧ (part.channel 7).mode = .off ∧
    ((withChannel2 { Channel.afterReset with mode := .stamp }).channel 2).mode = .stamp ∧
    ¬ (((withChannel2 { Channel.afterReset with mode := .stamp }).channel 2).edge = .both) ∧
    ((withChannel2 { Channel.afterReset with mode := .stamp }).channel 2).edge = .rise := by decide

/-- PERIOD, edge BOTH, LONGER, a reference at 200 and its watch at 1300, which is now. -/
def periodChannel : Channel :=
  { Channel.afterReset with mode := .period, edge := .both, sense := .longer, limit := 1100, reference := some 200,
                            watch := some 1300 }

theorem test_witness_Period :
    (withChannel2 periodChannel).tb.state = .running ∧ ((withChannel2 periodChannel).channel 2).mode = .period ∧
    ((withChannel2 periodChannel).channel 2).edge = .both ∧
    ((withChannel2 periodChannel).channel 2).watch = some 1300 ∧ 0 ≤ distance (withChannel2 periodChannel).now 1300 ∧
    ((withChannel2 periodChannel).channel 2).reference = some 200 ∧
    ((withChannel2 periodChannel).now - 200).toNat ≤ 2147483647 ∧
    (((withChannel2 { periodChannel with reference := none, watch := none }).channel 2).reference = none) := by decide

theorem test_witness_Width :
    (withChannel2 { periodChannel with mode := .width, edge := .fall }).tb.state = .running ∧
    ((withChannel2 { periodChannel with mode := .width, edge := .fall }).channel 2).mode = .width ∧
    ((withChannel2 { periodChannel with mode := .width, edge := .fall }).channel 2).edge = .fall ∧
    ((withChannel2 { periodChannel with mode := .width, edge := .fall }).channel 2).reference = some 200 ∧
    0 ≤ distance (withChannel2 { periodChannel with mode := .width, edge := .fall }).now 1300 ∧
    ((withChannel2 { Channel.afterReset with mode := .width }).channel 2).reference = none := by decide

theorem test_witness_AckEdge :
    (part.tb.state = .running ∧ (part.channel 1).mode = .ack ∧ (part.channel 1).edge = .rise ∧
      (part.channel 1).ackClaim = some 3 ∧
      part.slot 3 = .active { fresh strobeAction with remaining := 2 } 1200 1200 0 ∧ strobeAction.kind = .strobe ∧
      strobeAction.line = some 3 ∧ strobeAction.channel = some 1) ∧ part.NoCommitWaitsFor 3 ∧
    ((withChannel2 { Channel.afterReset with mode := .ack }).tb.state = .running ∧
      ((withChannel2 { Channel.afterReset with mode := .ack }).channel 2).mode = .ack ∧
      ((withChannel2 { Channel.afterReset with mode := .ack }).channel 2).edge = .rise ∧
      ((withChannel2 { Channel.afterReset with mode := .ack }).channel 2).ackClaim = none) :=
  ⟨by decide, noCommitWaits_of_none_pending _ 3 part_none_pending, by decide⟩

theorem test_witness_Expiries_watch :
    ((withChannel2 periodChannel).tb.state = .running ∧ ((withChannel2 periodChannel).channel 7).watch = none) ∧
    ((withChannel2 { periodChannel with watch := some 1301 }).tb.state = .running ∧
      ((withChannel2 { periodChannel with watch := some 1301 }).channel 2).watch = some 1301 ∧
      0 < distance (withChannel2 { periodChannel with watch := some 1301 }).now 1301) ∧
    (((withChannel2 periodChannel).channel 2).watch = some 1300 ∧
      distance (withChannel2 periodChannel).now 1300 ≤ 0) := by decide

/-- A channel whose reference is `age` ticks old at 1300, without a watch. -/
def aged (age : Nat) : Channel :=
  { Channel.afterReset with mode := .period, reference := some (1300 - BitVec.ofNat 32 age) }

theorem test_witness_Expiries_reference :
    ((withChannel2 (aged 2147483646)).tb.state = .running ∧ ((withChannel2 (aged 0)).channel 7).reference = none) ∧
    (((withChannel2 (aged 2147483646)).channel 2).reference = some (1300 - BitVec.ofNat 32 2147483646) ∧
      ((withChannel2 (aged 2147483646)).now - (1300 - BitVec.ofNat 32 2147483646)).toNat < 2147483647) ∧
    (((withChannel2 (aged 2147483647)).channel 2).reference = some (1300 - BitVec.ofNat 32 2147483647) ∧
      2147483647 ≤ ((withChannel2 (aged 2147483647)).now - (1300 - BitVec.ofNat 32 2147483647)).toNat ∧
      ((withChannel2 (aged 2147483647)).channel 2).watch = none) := by decide
theorem test_witness_Expiries_both :
    (let c : Channel := { aged 2147483647 with sense := .longer, limit := 2147483647, watch := some 1300 }
     (withChannel2 c).tb.state = .running ∧ ((withChannel2 c).channel 2).watch = some 1300 ∧
     distance (withChannel2 c).now 1300 ≤ 0 ∧
     2147483647 ≤ ((withChannel2 c).now - (1300 - BitVec.ofNat 32 2147483647)).toNat) := by decide
theorem test_witness_Expiries_edge :
    ((withChannel2 { periodChannel with watch := some 1299 }).tb.state = .running ∧
      ((withChannel2 { periodChannel with watch := some 1299 }).channel 2).mode = .period ∧
      ((withChannel2 { periodChannel with watch := some 1299 }).channel 2).edge = .both ∧
      ((withChannel2 { periodChannel with watch := some 1299 }).channel 2).watch = some 1299 ∧
      distance (withChannel2 { periodChannel with watch := some 1299 }).now 1299 < 0) ∧
    exec (.watchExpiry 2) (withChannel2 { periodChannel with watch := some 1299 })
      = .next (after (.watchExpiry 2) (withChannel2 { periodChannel with watch := some 1299 })) :=
  ⟨by decide, rfl⟩
theorem test_witness_Expiries_edge_width :
    ((withChannel2 { periodChannel with mode := .width, edge := .rise, watch := some 1299 }).channel 2).mode = .width ∧
    distance (withChannel2 { periodChannel with mode := .width, edge := .rise, watch := some 1299 }).now 1299 < 0 := by
  decide

/-- PERIOD and WIDTH channels whose reference is 2^31 ticks old: an edge stamped after its expiry. -/
theorem test_witness_Expiries_edge_reference :
    (∀ mode ∈ [ChannelMode.period, .width],
      let s := withChannel2 { aged 2147483648 with mode := mode }
      s.tb.state = .running ∧ (s.channel 2).mode = mode ∧ (s.channel 2).edge = .rise ∧
      (s.channel 2).reference = some (1300 - BitVec.ofNat 32 2147483648) ∧
      2147483647 < (s.now - (1300 - BitVec.ofNat 32 2147483648)).toNat ∧ (s.channel 2).watch = none) ∧
    exec (.referenceExpiry 2) (withChannel2 (aged 2147483648))
      = .next (after (.referenceExpiry 2) (withChannel2 (aged 2147483648))) :=
  ⟨by decide, rfl⟩

/-- The part with its due LEAD entry on a line that is claimed. -/
def collided (count : Half) : State :=
  part.setSlot 0 (.scheduled (fresh { setAction with line := some 2, count := count, period := 10 }) 1300)

theorem test_witness_RefusedAttempt_single :
    ((collided 1).tb.state = .running ∧ (collided 1).calendar = ⟨0, .lead, 1300, 0⟩ :: part.calendar.tail ∧
      (⟨0, .lead, 1300, 0⟩ : Entry).distance (collided 1).now ≤ 0 ∧
      (collided 1).slot 0 = .scheduled (fresh { setAction with line := some 2, count := 1, period := 10 }) 1300 ∧
      (collided 1).refusal (fresh { setAction with line := some 2, count := 1, period := 10 })
        ((⟨0, .lead, 1300, 0⟩ : Entry).lateness (collided 1).now) = some .collided) ∧
    (collided 1).NoCommitWaitsFor 0 :=
  ⟨by decide, noCommitWaits_of_none_pending _ 0 part_none_pending⟩
theorem test_witness_RefusedAttempt_miss :
    ((collided 2).tb.state = .running ∧ (collided 2).calendar = ⟨0, .lead, 1300, 0⟩ :: part.calendar.tail ∧
      (⟨0, .lead, 1300, 0⟩ : Entry).distance (collided 2).now ≤ 0 ∧
      (collided 2).slot 0 = .scheduled (fresh { setAction with line := some 2, count := 2, period := 10 }) 1300 ∧
      (collided 2).refusal (fresh { setAction with line := some 2, count := 2, period := 10 })
        ((⟨0, .lead, 1300, 0⟩ : Entry).lateness (collided 2).now) = some .collided) ∧
    (collided 2).NoCommitWaitsFor 0 :=
  ⟨by decide, noCommitWaits_of_none_pending _ 0 part_none_pending⟩

/-- The four reasons for a refusal, each where no earlier one holds. -/
theorem test_witness_refusals :
    ({ part with latenessLimit := 300 }.latenessLimit.toNat ≠ 0 ∧
      { part with latenessLimit := 300 }.latenessLimit.toNat < 301) ∧
    (part.line 2).claim ≠ none ∧ (part.channel 0).mode ≠ .ack ∧ (part.channel 1).ackClaim ≠ none := by decide

theorem test_witness_PerformedAttempt :
    (part.tb.state = .running ∧ part.calendar = ⟨0, .lead, 1300, 0⟩ :: part.calendar.tail ∧
      (⟨0, .lead, 1300, 0⟩ : Entry).distance part.now ≤ 0 ∧
      part.slot 0 = .scheduled (fresh { setAction with group := some 0 }) 1300 ∧
      part.refusal (fresh { setAction with group := some 0 }) ((⟨0, .lead, 1300, 0⟩ : Entry).lateness part.now) = none ∧
      setAction.line = some 0 ∧ setAction.kind = .set) ∧ part.NoCommitWaitsFor 0 :=
  ⟨by decide, noCommitWaits_of_none_pending _ 0 part_none_pending⟩

/-- The part with its due LEAD entry that of a given action. -/
def leading (a : Action) : State := part.setSlot 0 (.scheduled (fresh a) 1300)

/-- The hypotheses that every `leading` state meets. -/
theorem leading_is_due (a : Action) :
    (leading a).tb.state = .running ∧ (leading a).calendar = ⟨0, .lead, 1300, 0⟩ :: part.calendar.tail ∧
    (⟨0, .lead, 1300, 0⟩ : Entry).distance (leading a).now ≤ 0 ∧
    (⟨0, .lead, 1300, 0⟩ : Entry).lateness (leading a).now = 0 ∧
    (leading a).slot 0 = .scheduled (fresh a) 1300 ∧ (leading a).NoCommitWaitsFor 0 :=
  ⟨rfl, rfl, by rw [show (leading a).now = 1300 from rfl]; decide,
    by rw [show (leading a).now = 1300 from rfl]; decide, rfl, noCommitWaits_of_none_pending _ 0 part_none_pending⟩

theorem test_witness_PerformedAttempt_others :
    ((leading { setAction with kind := .clear }).refusal (fresh { setAction with kind := .clear }) 0 = none) ∧
    ((leading { setAction with kind := .toggle }).refusal (fresh { setAction with kind := .toggle }) 0 = none) ∧
    ((leading { setAction with kind := .note, line := none }).refusal
      (fresh { setAction with kind := .note, line := none }) 0 = none) := by decide

theorem test_witness_FiringBegins_pulse :
    (leading { pulseAction with line := some 5 }).refusal (fresh { pulseAction with line := some 5 }) 0 = none ∧
    pulseAction.width = some 250 ∧ pulseAction.kind = .pulse := by decide

/-- A due STROBE of O5 and I6, which is in ACK mode and free. -/
def leadingStrobe : State :=
  (leading { strobeAction with line := some 5, channel := some 6 }).setChannel 6 { Channel.afterReset with mode := .ack }

theorem test_witness_FiringBegins_strobe :
    (leadingStrobe.tb.state = .running ∧ leadingStrobe.calendar = ⟨0, .lead, 1300, 0⟩ :: part.calendar.tail ∧
      (⟨0, .lead, 1300, 0⟩ : Entry).distance leadingStrobe.now ≤ 0 ∧
      leadingStrobe.slot 0 = .scheduled (fresh { strobeAction with line := some 5, channel := some 6 }) 1300 ∧
      leadingStrobe.refusal (fresh { strobeAction with line := some 5, channel := some 6 })
        ((⟨0, .lead, 1300, 0⟩ : Entry).lateness leadingStrobe.now) = none ∧
      strobeAction.width = some 500 ∧ strobeAction.kind = .strobe) ∧ leadingStrobe.NoCommitWaitsFor 0 :=
  ⟨by decide, noCommitWaits_of_none_pending _ 0 part_none_pending⟩

theorem test_witness_TrailAndTimeout :
    (let s := at_ 1350 (part.setCalendar [⟨2, .trailing, 1350, 0⟩]);
      s.tb.state = .running ∧ (⟨2, .trailing, 1350, 0⟩ : Entry).distance s.now ≤ 0 ∧
      s.slot 2 = .active { fresh pulseAction with remaining := 0 } 1100 1100 0 ∧ pulseAction.kind = .pulse) ∧
    (let s := at_ 1700 (part.setCalendar [⟨3, .trailing, 1700, 0⟩]);
      s.tb.state = .running ∧ (⟨3, .trailing, 1700, 0⟩ : Entry).distance s.now ≤ 0 ∧
      s.slot 3 = .active { fresh strobeAction with remaining := 2 } 1200 1200 0 ∧ strobeAction.kind = .strobe) ∧
    (at_ 1350 (part.setCalendar [⟨2, .trailing, 1350, 0⟩])).NoCommitWaitsFor 2 ∧
    (at_ 1700 (part.setCalendar [⟨3, .trailing, 1700, 0⟩])).NoCommitWaitsFor 3 :=
  ⟨by decide, by decide, noCommitWaits_of_none_pending _ 2 part_none_pending,
    noCommitWaits_of_none_pending _ 3 part_none_pending⟩

theorem test_witness_FiredAnchor_order :
    ((waitingOn 3).group 2).state = .pending 3 true ∧
    (∀ k : GroupNo, k < 2 → ∀ a b,
      ¬ (((waitingOn 3).group k).state = .pending a b ∧ (a = 3 ∨ ((waitingOn 3).slot a).isLive = false))) ∧
    (∀ k : GroupNo, ∀ a b, ¬ ((part.group k).state = .pending a b ∧ (a = 3 ∨ (part.slot a).isLive = false))) := by
  refine ⟨by decide, ?_, ?_⟩ <;> · intro k; decide +revert

theorem test_witness_FiredAnchor :
    ((waitingOn 0).tb.state = .running ∧ (waitingOn 0).calendar = ⟨0, .lead, 1300, 0⟩ :: part.calendar.tail ∧
      (⟨0, .lead, 1300, 0⟩ : Entry).distance (waitingOn 0).now ≤ 0 ∧
      (waitingOn 0).slot 0 = .scheduled (fresh { setAction with group := some 0 }) 1300 ∧
      ((waitingOn 0).group 2).state = .pending 0 true) ∧ (waitingOn 0).OpenListsHold := by decide

/-- The part at work meets every law. -/
theorem part_lawful : part.Lawful where
  actions := by decide
  remaining := by decide
  queue := by decide
  calendar := by decide
  ordered := by decide
  pastFloors := by decide
  openLists := part_open_lists
  parkedLists := part_parked_lists
  claims := by decide
  ackClaims := by decide
  anchors := anchorsLive_of_none_pending _ part_none_pending
  measurements := by decide
  reporting := by decide
  timebase := by decide
  command := by decide
  resetHeld := (fun h => nomatch h)

/-- The part at work with a QUIESCE taken. -/
def quiescing : State := taken 0x0B [] part

theorem test_witness_Quiesce : (quiescing.cu.busy = true ∧ quiescing.cu.code = 0x0B) ∧ quiescing.Lawful :=
  ⟨by decide,
    { actions := part_lawful.actions, remaining := part_lawful.remaining, queue := part_lawful.queue,
      calendar := part_lawful.calendar, ordered := part_lawful.ordered,
      pastFloors := part_lawful.pastFloors, openLists := part_lawful.openLists,
      parkedLists := part_lawful.parkedLists, claims := part_lawful.claims, ackClaims := part_lawful.ackClaims,
      anchors := part_lawful.anchors, measurements := part_lawful.measurements, reporting := part_lawful.reporting,
      timebase := part_lawful.timebase, command := by decide, resetHeld := (fun h => nomatch h) }⟩

/-- For the statements that every step keeps a law: a lawful state whose step is the release of its due LEAD entry. -/
theorem test_witness_StepKeeps :
    { part with pending := [.leadRelease] }.Lawful ∧
    step { part with pending := [.leadRelease] } = .next (after .leadRelease part) :=
  ⟨{ actions := part_lawful.actions, remaining := part_lawful.remaining, queue := part_lawful.queue,
     calendar := part_lawful.calendar, ordered := part_lawful.ordered,
      pastFloors := part_lawful.pastFloors, openLists := part_lawful.openLists,
     parkedLists := part_lawful.parkedLists, claims := part_lawful.claims, ackClaims := part_lawful.ackClaims,
     anchors := part_lawful.anchors, measurements := part_lawful.measurements, reporting := part_lawful.reporting,
     timebase := part_lawful.timebase, command := part_lawful.command, resetHeld := (fun h => nomatch h) }, rfl⟩

end Sys2Proof.Tests
end

section
/-! POST's checks and the refusals and OPEN case of CANCEL (Chapter 1): what the operand readers answer, one rule per
check of R8, and the two commands assembled from them. -/

namespace Sys2Proof.Machine

/-! ### Multi-byte values of the latch -/

theorem toNat_append_eq_add {m n : Nat} (x : BitVec m) (y : BitVec n) :
    (x ++ y).toNat = x.toNat * 2 ^ n + y.toNat := by
  rw [BitVec.toNat_append, ← Nat.shiftLeft_add_eq_or_of_lt y.isLt, Nat.shiftLeft_eq]

theorem half_toNat (b0 b1 : Byte) : (half b0 b1).toNat = b0.toNat + 256 * b1.toNat := by
  have h : (half b0 b1).toNat = b1.toNat * 2 ^ 8 + b0.toNat := toNat_append_eq_add b1 b0
  omega

theorem triple_toNat (b0 b1 b2 : Byte) :
    (triple b0 b1 b2).toNat = b0.toNat + 256 * b1.toNat + 65536 * b2.toNat := by
  have h : (triple b0 b1 b2).toNat = (b2 ++ b1).toNat * 2 ^ 8 + b0.toNat := toNat_append_eq_add _ b0
  rw [toNat_append_eq_add] at h
  omega

theorem word_toNat (b0 b1 b2 b3 : Byte) :
    (word b0 b1 b2 b3).toNat = b0.toNat + 256 * b1.toNat + 65536 * b2.toNat + 16777216 * b3.toNat := by
  have h : (word b0 b1 b2 b3).toNat = (b3 ++ b2 ++ b1).toNat * 2 ^ 8 + b0.toNat := toNat_append_eq_add _ b0
  rw [toNat_append_eq_add, toNat_append_eq_add] at h
  omega

/-! ### Named values and numbers (R179, R180) -/

theorem Kind.ofCode_eq_some_iff (b : Byte) (k : Kind) : Kind.ofCode b = some k ↔ b.toNat = k.code := by
  constructor
  · intro h
    unfold Kind.ofCode at h
    split at h <;> cases h <;> assumption
  · intro h
    cases k <;> simp [Kind.ofCode, h, Kind.code]

theorem Kind.ofCode_eq_none_iff (b : Byte) : Kind.ofCode b = none ↔ b.toNat = 0 ∨ 6 < b.toNat := by
  unfold Kind.ofCode
  split <;> simp_all
  omega

theorem TimingMode.ofCode_eq_some_iff (b : BitVec 2) (m : TimingMode) :
    TimingMode.ofCode b = some m ↔ b.toNat = m.code := by
  constructor
  · intro h
    unfold TimingMode.ofCode at h
    split at h <;> cases h <;> assumption
  · intro h
    cases m <;> simp [TimingMode.ofCode, h, TimingMode.code]

theorem TimingMode.ofCode_eq_none_iff (b : BitVec 2) : TimingMode.ofCode b = none ↔ b.toNat = 3 := by
  have := b.isLt
  unfold TimingMode.ofCode
  split <;> simp_all
  omega

theorem slotOf_eq_none_iff (b : Byte) : slotOf b = none ↔ 63 < b.toNat := by
  unfold slotOf
  split <;> simp <;> omega

theorem slotOf_eq_some_iff (b : Byte) (n : SlotNo) : slotOf b = some n ↔ b.toNat = n.val := by
  unfold slotOf
  split <;> simp [Fin.ext_iff]
  omega

theorem lineOf_eq_none_iff (b : Byte) : lineOf b = none ↔ 15 < b.toNat := by
  unfold lineOf
  split <;> simp <;> omega

theorem groupOf_eq_some_iff (k : Nat) (g : GroupNo) : groupOf k = some g ↔ k = g.val + 1 := by
  unfold groupOf
  split <;> simp [Fin.ext_iff] <;> omega

theorem State.firstFree_eq_none_iff (s : State) : s.firstFree = none ↔ ∀ n : SlotNo, s.slot n ≠ .free := by
  simp [State.firstFree, slotNumbers]

theorem State.groupIsPending_iff (s : State) (o : Option GroupNo) :
    s.groupIsPending o = true ↔ ∃ g anchor replace, o = some g ∧ (s.group g).state = .pending anchor replace := by
  cases o with
  | none => simp [State.groupIsPending]
  | some g =>
    cases hg : (s.group g).state with
    | empty => simp [State.groupIsPending, hg]
    | filling => simp [State.groupIsPending, hg]
    | pending anchor replace =>
      exact ⟨fun _ => ⟨g, anchor, replace, rfl, hg⟩, fun _ => by simp [State.groupIsPending, hg]⟩

/-! ### A taken POST and a taken CANCEL end with their reply (R173) -/

theorem exec_post_of_latched (s : State) (h : s.latched codePost) : exec .post s = .next (s.finish s.replyPost) :=
  congrArg Host.Outcome.next (if_pos h)

theorem exec_cancel_of_latched (s : State) (h : s.latched codeCancel) :
    exec .cancel s = .next (s.finish s.replyCancel) :=
  congrArg Host.Outcome.next (if_pos h)

/-- The result code that an answer gives an execution: its error's code, or OK. -/
def resultCodeOf {α : Type} : Except ResultCode α → ResultCode
  | .error code => code
  | .ok _ => .ok

@[simp] theorem resultCodeOf_error {α : Type} (code : ResultCode) :
    resultCodeOf (.error code : Except ResultCode α) = code := rfl
@[simp] theorem resultCodeOf_ok {α : Type} (a : α) : resultCodeOf (.ok a) = .ok := rfl

theorem State.finish_resultCode (s : State) (reply : Reply) : (s.finish reply).cu.resultCode = resultCodeOf reply := by
  rcases s.finish_cases reply with ⟨code, rfl, e⟩ | ⟨after, bytes, rfl, e⟩ <;> rw [e] <;> rfl

/-! ### The six checks of a POST (R8) -/

theorem State.replyPost_resultCode (s : State) : resultCodeOf s.replyPost = resultCodeOf s.checkPost := by
  unfold State.replyPost
  split <;> rename_i h <;> rw [h] <;> rfl

theorem State.checkPost_of_kind_none (s : State) (hk : Kind.ofCode (s.param 0) = none) :
    s.checkPost = .error .badKind := by
  simp [State.checkPost, State.postRequest, hk]

theorem State.checkPost_of_mode_none (s : State) (kind : Kind) (hk : Kind.ofCode s.postRequest.kindCode = some kind)
    (hm : TimingMode.ofCode s.postRequest.modeCode = none) : s.checkPost = .error .badMode := by
  simp [State.checkPost, hk, hm]

/-- The checks after those that the codes of the kind and the mode settle. -/
theorem State.checkPost_resultCode_of_named (s : State) (kind : Kind) (mode : TimingMode)
    (hk : Kind.ofCode s.postRequest.kindCode = some kind) (hm : TimingMode.ofCode s.postRequest.modeCode = some mode) :
    resultCodeOf s.checkPost =
      if s.postRequest.rearm = true ∧ mode ≠ .trig then .badMode
      else if kind ≠ .note ∧ lineOf s.postRequest.lineNumber = none then .badLine
      else if s.postRequest.badTime kind mode = true then .badTime
      else if s.firstFree = none then .noSlot
      else if s.groupIsPending s.postRequest.group = true then .groupState
      else .ok := by
  cases hf : s.firstFree <;>
    simp only [State.checkPost, hk, hm, hf, apply_ite resultCodeOf, resultCodeOf_error, resultCodeOf_ok, reduceCtorEq,
      if_true, if_false]

theorem State.modeCode_toNat (s : State) : s.postRequest.modeCode.toNat = (s.param 1).toNat % 4 := by
  simp [State.postRequest, BitVec.extractLsb'_toNat]

theorem Kind.hasWidth_iff_code (k : Kind) : k.hasWidth = true ↔ k.code = 4 ∨ k.code = 5 := by
  cases k <;> decide

/-- Check 4 of R8 in numbers. -/
theorem PostRequest.badTime_iff (p : PostRequest) (kind : Kind) (mode : TimingMode) :
    p.badTime kind mode = true ↔
      (mode.code ≠ 0 ∧ 2 ^ 31 ≤ p.timeValue.toNat) ∨
      ((kind.code = 4 ∨ kind.code = 5) ∧ p.width.toNat = 0) ∨
      (p.count.toNat ≠ 1 ∧ p.period.toNat = 0) ∨
      ((kind.code = 4 ∨ kind.code = 5) ∧ p.count.toNat ≠ 1 ∧ p.period.toNat ≤ p.width.toNat) := by
  have hmode : mode ≠ .abs ↔ mode.code ≠ 0 := by cases mode <;> decide
  have hwidth : p.width = 0 ↔ p.width.toNat = 0 := BitVec.toNat_inj.symm
  have hcount : p.count = 1 ↔ p.count.toNat = 1 := BitVec.toNat_inj.symm
  have hperiod : p.period = 0 ↔ p.period.toNat = 0 := BitVec.toNat_inj.symm
  simp only [PostRequest.badTime, Bool.or_eq_true, Bool.and_eq_true, bne_iff_ne, beq_iff_eq, decide_eq_true_eq,
    ne_eq, hwidth, hcount, hperiod, Kind.hasWidth_iff_code, or_assoc, and_assoc] at hmode ⊢
  rw [hmode]

/-- Settles O17: the codes of the kind and the mode decide the first two checks, and with both named each later check
of the model is its condition on the bytes of the latch. -/
theorem postResultCode : Obligations.PostResultCode := by
  intro s hbusy hcode
  refine ⟨_, exec_post_of_latched s ⟨hbusy, hcode⟩, ?_⟩
  rw [s.finish_resultCode, s.replyPost_resultCode]
  cases hk : Kind.ofCode (s.param 0) with
  | none =>
    rw [s.checkPost_of_kind_none hk, if_pos ((Kind.ofCode_eq_none_iff _).mp hk), resultCodeOf_error]
  | some kind =>
    rw [if_neg (by simp [← Kind.ofCode_eq_none_iff, hk])]
    have hkind : (s.param 0).toNat = kind.code := (Kind.ofCode_eq_some_iff _ _).mp hk
    cases hm : TimingMode.ofCode s.postRequest.modeCode with
    | none =>
      have hmode : (s.param 1).toNat % 4 = 3 := by
        rw [← s.modeCode_toNat, ← TimingMode.ofCode_eq_none_iff, hm]
      rw [s.checkPost_of_mode_none kind hk hm, if_pos (.inl hmode), resultCodeOf_error]
    | some mode =>
      rw [s.checkPost_resultCode_of_named kind mode hk hm]
      have hmode : (s.param 1).toNat % 4 = mode.code := by
        rw [← s.modeCode_toNat, ← TimingMode.ofCode_eq_some_iff, hm]
      refine if_congr ?rearm rfl (if_congr ?line rfl (if_congr ?time rfl
        (if_congr ?slot rfl (if_congr ?group rfl rfl))))
      case rearm =>
        rw [hmode]
        show (s.param 1).getLsbD 7 = true ∧ _ ↔ _
        cases mode <;> simp [TimingMode.code]
      case line =>
        rw [hkind]
        have hnote : kind ≠ .note ↔ kind.code ≠ 6 := by cases kind <;> decide
        exact and_congr hnote (lineOf_eq_none_iff _)
      case time =>
        rw [PostRequest.badTime_iff, hkind, hmode]
        simp only [State.postRequest, word_toNat, half_toNat, triple_toNat]
      case slot => exact s.firstFree_eq_none_iff
      case group =>
        simp only [s.groupIsPending_iff, State.postRequest, groupOf_eq_some_iff]

/-! ### CANCEL (R14, R15) -/

theorem State.replyCancel_of_slotOf_none (s : State) (h : slotOf (s.param 0) = none) :
    s.replyCancel = .error .badSlot := by
  simp only [State.replyCancel, h]

theorem State.replyCancel_of_cancelSlot_none (s : State) (n : SlotNo) (hn : slotOf (s.param 0) = some n)
    (hc : s.cancelSlot n = none) : s.replyCancel = .error .notLive := by
  simp only [State.replyCancel, hn, hc]

theorem State.replyCancel_of_cancelSlot_some (s after : State) (n : SlotNo) (hn : slotOf (s.param 0) = some n)
    (hc : s.cancelSlot n = some after) : s.replyCancel = .ok (after, [byteOfNat (s.slot n).code]) := by
  simp only [State.replyCancel, hn, hc]

theorem State.cancelSlot_of_free (s : State) (n : SlotNo) (hs : s.slot n = .free) : s.cancelSlot n = none := by
  simp only [State.cancelSlot, hs]

theorem State.cancelSlot_of_complete (s : State) (n : SlotNo) (h : Held) (status : Status) (time : Tick)
    (hs : s.slot n = .complete h status time) : s.cancelSlot n = none := by
  simp only [State.cancelSlot, hs]

theorem State.cancelSlot_of_opened (s : State) (n : SlotNo) (h : Held) (g : GroupNo) (hs : s.slot n = .opened h)
    (hg : h.action.group = some g) :
    s.cancelSlot n = some ((s.setSlot n .free).setGroup g ((s.group g).dropMember n)) := by
  simp only [State.cancelSlot, State.cancelOpen, hs, hg]

/-- The group after the removal: only a FILLING group whose list becomes empty changes its state (R15). -/
theorem Group.dropMember_eq (group : Group) (n : SlotNo) :
    group.dropMember n =
      { group with
        openList := group.openList.filter (· != n)
        state := if group.openList.filter (· != n) = [] ∧ group.state = .filling then .empty else group.state } := by
  cases hs : group.state <;> simp [Group.dropMember, hs]

/-- Settles O20: the slot that PARAM0 names, and then the state of that slot, select the reply. -/
theorem cancelRefusalsAndOpenSlot : Obligations.CancelRefusalsAndOpenSlot := by
  intro s hbusy hcode
  rw [exec_cancel_of_latched s ⟨hbusy, hcode⟩]
  refine ⟨fun habove => ?badSlot, fun n hn hfree => ?free, fun n h status time hn hcomplete => ?complete,
    fun n h g hn hopen hg => ?opened⟩
  case badSlot => rw [s.replyCancel_of_slotOf_none ((slotOf_eq_none_iff _).mpr habove), State.finish_error]
  case free =>
    rw [s.replyCancel_of_cancelSlot_none n ((slotOf_eq_some_iff _ n).mpr hn) (s.cancelSlot_of_free n hfree),
      State.finish_error]
  case complete =>
    rw [s.replyCancel_of_cancelSlot_none n ((slotOf_eq_some_iff _ n).mpr hn)
      (s.cancelSlot_of_complete n h status time hcomplete), State.finish_error]
  case opened =>
    rw [s.replyCancel_of_cancelSlot_some _ n ((slotOf_eq_some_iff _ n).mpr hn) (s.cancelSlot_of_opened n h g hopen hg),
      State.finish_ok, Group.dropMember_eq, hopen]
    rfl

end Sys2Proof.Machine
end

section
/-! The lateness limit (Section 3.5): the execution of a LATENESS, and what the limit in force makes of an attempt. -/

namespace Sys2Proof.Machine

theorem exec_lateness_of_latched (s : State) (h : s.latched codeLateness) :
    exec .lateness s =
      .next (State.accepted { s with latenessLimit := half (s.param 0) (s.param 1) } (bytesOfHalf s.latenessLimit)) := by
  have hexec : exec .lateness s = .next (s.finish s.replyLateness) := congrArg Host.Outcome.next (if_pos h)
  rw [hexec, State.replyLateness, State.finish_ok]

@[simp] theorem State.accepted_latenessLimit (s : State) (bytes : List Byte) :
    (s.accepted bytes).latenessLimit = s.latenessLimit := rfl

/-- R53 in numbers. -/
theorem State.judgedExpired_iff (s : State) (lateness : Nat) :
    s.judgedExpired lateness = true ↔ s.latenessLimit.toNat ≠ 0 ∧ s.latenessLimit.toNat < lateness := by
  have hzero : s.latenessLimit = 0 ↔ s.latenessLimit.toNat = 0 := BitVec.toNat_inj.symm
  rw [State.judgedExpired, Bool.and_eq_true, bne_iff_ne, decide_eq_true_iff, ne_eq, hzero]

/-- Check 1 of R61 is the only one whose reason is EXPIRED: every later branch names another reason or none. -/
theorem State.refusal_eq_expired_iff (s : State) (h : Held) (lateness : Nat) :
    s.refusal h lateness = some .expired ↔ s.judgedExpired lateness = true := by
  cases hjudged : s.judgedExpired lateness with
  | true => simp [State.refusal, hjudged]
  | false =>
    have hlater : s.refusal h lateness ≠ some .expired := by
      rw [State.refusal, hjudged, if_neg Bool.false_ne_true]
      repeat' split
      all_goals simp
    simp [hlater]

/-- Settles O33: the latched command executes with the two parameter bytes as the limit, and the judgement of an attempt
reads the limit in force. -/
theorem latenessReplacesTheLimit : Obligations.LatenessReplacesTheLimit := by
  intro s hbusy hcode
  refine ⟨_, exec_lateness_of_latched s ⟨hbusy, hcode⟩, rfl, ?limit, fun h lateness => ?judgement⟩
  case limit => rw [State.accepted_latenessLimit, half_toNat]
  case judgement => rw [State.refusal_eq_expired_iff, State.judgedExpired_iff]

end Sys2Proof.Machine
end

section
/-! LINE (Section 4.8): what its two operand bytes name, the checks of R81 in one equation, and the level on a pin as a
function of the logical state and the polarity (R58). -/

namespace Sys2Proof.Machine

/-! ### Named lines and polarities (R181) -/

theorem lineOf_of_toNat_eq (b : Byte) (l : LineNo) (h : b.toNat = l.val) : lineOf b = some l :=
  (dif_pos (h ▸ l.isLt)).trans (congrArg some (Fin.ext h))

/-- The byte's value decides the polarity; above 1 it names none. -/
theorem Polarity.ofCode_eq (b : Byte) :
    Polarity.ofCode b = if 1 < b.toNat then none else some (if b.toNat = 0 then .activeHigh else .activeLow) := by
  unfold Polarity.ofCode
  split
  case h_1 h => simp [h]
  case h_2 h => simp [h]
  case h_3 hzero hone => exact (if_pos (Nat.one_lt_iff_ne_zero_and_ne_one.mpr ⟨hzero, hone⟩)).symm

theorem Polarity.byteOfNat_code : (p : Polarity) → byteOfNat p.code = if p = .activeHigh then 0 else 1
  | .activeHigh => rfl
  | .activeLow => rfl

/-! ### The level on a pin (R58) -/

theorem Line.pinLevel_eq : (x : Line) → x.pinLevel = if x.polarity = .activeHigh then x.isActive else !x.isActive
  | ⟨_, .activeHigh, _⟩ => rfl
  | ⟨_, .activeLow, _⟩ => rfl

theorem State.outputPin_accepted (s : State) (bytes : List Byte) (l : LineNo) :
    (s.accepted bytes).outputPin l = s.outputPin l := rfl

theorem State.outputPin_setLine_self (s : State) (l : LineNo) (x : Line) : (s.setLine l x).outputPin l = x.pinLevel :=
  congrArg Line.pinLevel (s.line_setLine_self l x)

/-! ### The checks of a LINE in order, and its effect (R81) -/

theorem exec_line_of_latched (s : State) (h : s.latched codeLine) : exec .line s = .next (s.finish s.replyLine) :=
  congrArg Host.Outcome.next (if_pos h)

/-- The whole reply by the line, then the polarity byte, then the claim. -/
theorem State.replyLine_eq (s : State) :
    s.replyLine =
      (lineOf (s.param 0)).elim (.error .badLine) fun l =>
        if 1 < (s.param 1).toNat then .error .badCfg
        else if (s.line l).claim ≠ none then .error .lineBusy
        else .ok (s.setLine l
            { s.line l with polarity := if (s.param 1).toNat = 0 then .activeHigh else .activeLow },
          [if (s.line l).polarity = .activeHigh then 0 else 1]) := by
  rw [State.replyLine, Polarity.ofCode_eq]
  cases lineOf (s.param 0) with
  | none => rfl
  | some l =>
    by_cases habove : 1 < (s.param 1).toNat
    · simp only [habove, if_true, Option.elim_some]
    · simp only [habove, if_false, Option.elim_some, Option.isSome_iff_ne_none, Polarity.byteOfNat_code]

/-- Settles O29: the line, then the polarity, then the claim select the reply, and the pin reads the line written. -/
theorem lineSetsThePolarity : Obligations.LineSetsThePolarity := by
  intro s hbusy hcode
  rw [exec_line_of_latched s ⟨hbusy, hcode⟩, s.replyLine_eq]
  refine ⟨fun habove => ?badLine, fun l hparam => ?named⟩
  case badLine => rw [(lineOf_eq_none_iff _).mpr habove, Option.elim_none, State.finish_error]
  rw [lineOf_of_toNat_eq _ l hparam, Option.elim_some]
  refine ⟨fun habove => ?badCfg, fun hle hclaim => ?lineBusy, fun hle hclaim => ⟨_, rfl, ?effect, ?pin⟩⟩
  case badCfg => rw [if_pos habove, State.finish_error]
  case lineBusy => rw [if_neg (Nat.not_lt.mpr hle), if_pos hclaim, State.finish_error]
  case effect =>
    rw [if_neg (Nat.not_lt.mpr hle), if_neg (not_not_intro hclaim), State.finish_ok]
    rfl
  case pin =>
    rw [if_neg (Nat.not_lt.mpr hle), if_neg (not_not_intro hclaim), State.finish_ok, State.outputPin_accepted,
      State.outputPin_setLine_self, Line.pinLevel_eq]

end Sys2Proof.Machine
end

section
/-! COMMIT's checks (R90) and DISCARD (R103): which check of a COMMIT names its result code, and what the freeing of an
open list does to the slots. -/

namespace Sys2Proof.Machine

/-! ### The six checks of a COMMIT (R90) -/

theorem exec_commit_of_latched (s : State) (h : s.latched codeCommit) :
    exec .commit s = .next (s.finish s.replyCommit) :=
  congrArg Host.Outcome.next (if_pos h)

theorem groupOf_eq_none_iff (k : Nat) : groupOf k = none ↔ k = 0 ∨ 7 < k := by
  unfold groupOf
  split <;> simp <;> omega

/-- An execution that ends with a code other than OK leaves the groups and the slots as they were (R174). -/
theorem State.finish_keeps_of_not_ok (s : State) (reply : Reply) (h : (s.finish reply).cu.resultCode ≠ .ok) :
    (s.finish reply).groups = s.groups ∧ (s.finish reply).slots = s.slots := by
  rcases s.finish_cases reply with ⟨code, -, e⟩ | ⟨after, bytes, -, e⟩ <;> rw [e] at h ⊢
  · exact ⟨rfl, rfl⟩
  · exact absurd rfl h

theorem State.replyCommit_of_groupOf_none (s : State) (hg : groupOf (s.param 0).toNat = none) :
    s.replyCommit = .error .badGroup := by
  simp only [State.replyCommit, hg]

/-- The checks after the one that the group number settles. -/
theorem State.replyCommit_resultCode_of_group (s : State) (g : GroupNo) (hg : groupOf (s.param 0).toNat = some g) :
    resultCodeOf s.replyCommit =
      if 1 < (s.param 1).toNat then .badCfg
      else if (s.param 1).toNat = 1 ∧ slotOf (s.param 3) = none then .badSlot
      else if s.groupIsPending (some g) = true then .groupState
      else if (s.group g).state = .empty ∧ (s.param 2).getLsbD 0 = false then .emptyGroup
      else if (s.param 1).toNat = 1 ∧ ∃ n, slotOf (s.param 3) = some n ∧ (s.slot n).isLive = false then .notLive
      else .ok := by
  by_cases habove : 1 < (s.param 1).toNat
  · simp [State.replyCommit, hg, habove]
  have hchoice : (s.param 1).toNat = 0 ∨ (s.param 1).toNat = 1 := by omega
  rcases hchoice with hnow | hanchor
  · cases hs : (s.group g).state <;>
      simp [State.replyCommit, hg, hnow, hs, State.groupIsPending, apply_ite resultCodeOf]
  · cases hslot : slotOf (s.param 3) with
    | none => simp [State.replyCommit, hg, hanchor, hslot]
    | some n =>
      cases hs : (s.group g).state <;>
        simp [State.replyCommit, hg, hanchor, hslot, hs, State.groupIsPending, apply_ite resultCodeOf,
          ← Bool.not_eq_true, ite_not]

/-- Settles O23: the group number decides the first check, and with the group named each later check of the model is its
condition on the bytes of the latch. -/
theorem commitResultCode : Obligations.CommitResultCode := by
  intro s hbusy hcode
  refine ⟨_, exec_commit_of_latched s ⟨hbusy, hcode⟩, ?code, s.finish_keeps_of_not_ok _⟩
  rw [s.finish_resultCode]
  cases hg : groupOf (s.param 0).toNat with
  | none =>
    rw [s.replyCommit_of_groupOf_none hg, if_pos ((groupOf_eq_none_iff _).mp hg), resultCodeOf_error]
  | some g =>
    rw [if_neg (by simp [← groupOf_eq_none_iff, hg]), s.replyCommit_resultCode_of_group g hg]
    refine if_congr .rfl rfl (if_congr ?slot rfl (if_congr ?pending rfl (if_congr ?empty rfl (if_congr ?live rfl rfl))))
    case slot => rw [slotOf_eq_none_iff]
    case pending => simp only [← hg, s.groupIsPending_iff, groupOf_eq_some_iff]
    case empty => simp [← groupOf_eq_some_iff, hg]
    case live => simp only [slotOf_eq_some_iff]

/-! ### The freeing of an open list (R103) -/

theorem exec_discard_of_latched (s : State) (h : s.latched codeDiscard) :
    exec .discard s = .next (s.finish s.replyDiscard) :=
  congrArg Host.Outcome.next (if_pos h)

/-- One slot under a DISCARD: an OPEN slot becomes FREE, any other is left alone. -/
theorem State.freeOpen_cases (s : State) (n : SlotNo) :
    ((s.slot n).isOpened = true ∧ s.freeOpen n = s.setSlot n .free) ∨
    ((s.slot n).isOpened = false ∧ s.freeOpen n = s) := by
  unfold State.freeOpen
  cases s.slot n <;> simp [Slot.isOpened]

theorem State.slot_freeOpen (s : State) (n m : SlotNo) :
    (s.freeOpen n).slot m = if m = n ∧ (s.slot m).isOpened = true then .free else s.slot m := by
  rcases s.freeOpen_cases n with ⟨hopen, e⟩ | ⟨hkept, e⟩ <;> rw [e]
  · by_cases hm : m = n <;> simp [State.slot_setSlot, hm, hopen]
  · by_cases hm : m = n <;> simp [hm, hkept]

/-- Freeing a list of slots writes the slots and nothing else. -/
theorem State.freeOpens_eq (s : State) (l : List SlotNo) :
    l.foldl State.freeOpen s = { s with slots := (l.foldl State.freeOpen s).slots } := by
  refine foldl_invariant State.freeOpen (fun t => t = { s with slots := t.slots }) (fun t n ht => ?_) l s rfl
  rcases t.freeOpen_cases n with ⟨-, e⟩ | ⟨-, e⟩ <;> rw [e]
  · rw [ht]; rfl
  · exact ht

/-- Freeing a list of slots frees its OPEN members. -/
theorem State.slot_freeOpens (s : State) (l : List SlotNo) (m : SlotNo) :
    (l.foldl State.freeOpen s).slot m = if m ∈ l ∧ (s.slot m).isOpened = true then .free else s.slot m := by
  induction l generalizing s with
  | nil => simp
  | cons n rest ih =>
    rw [List.foldl_cons, ih, State.slot_freeOpen]
    by_cases hfreed : m = n ∧ (s.slot m).isOpened = true
    · obtain ⟨rfl, hopen⟩ := hfreed
      simp [hopen]
    · have hmem : m ∈ n :: rest ∧ (s.slot m).isOpened = true ↔ m ∈ rest ∧ (s.slot m).isOpened = true := by
        rw [List.mem_cons]
        tauto
      simp only [if_neg hfreed, hmem]

theorem Slot.isOpened_of_isOpenIn (g : GroupNo) (x : Slot) (h : x.isOpenIn g = true) : x.isOpened = true := by
  cases x with
  | opened _ => rfl
  | _ => exact absurd h Bool.false_ne_true

/-- Where the open list of `g` holds the slots OPEN in it, freeing the list frees exactly those (R88, R103). -/
theorem State.slot_freeOpens_openList (s : State) (g : GroupNo) (hlists : s.OpenListsHold) (m : SlotNo) :
    ((s.group g).openList.foldl State.freeOpen s).slot m = if (s.slot m).isOpenIn g then .free else s.slot m := by
  obtain ⟨-, hmem, -, -⟩ := hlists.1 g
  rw [s.slot_freeOpens]
  refine if_congr ?_ rfl rfl
  rw [hmem m]
  exact and_iff_left_of_imp (Slot.isOpened_of_isOpenIn g _)

/-! ### DISCARD (R103) -/

theorem State.replyDiscard_of_groupOf_none (s : State) (hg : groupOf (s.param 0).toNat = none) :
    s.replyDiscard = .error .badGroup := by
  simp only [State.replyDiscard, hg]

theorem State.replyDiscard_of_groupOf_some (s : State) (g : GroupNo) (hg : groupOf (s.param 0).toNat = some g) :
    s.replyDiscard =
      .ok (((s.group g).openList.foldl State.freeOpen s).setGroup g (s.group g).emptied,
        [byteOfNat (s.group g).openList.length,
          byteOfNat (if s.groupIsPending (some g) = true then 1 else 0)]) := by
  cases hs : (s.group g).state <;> simp [State.replyDiscard, hg, State.groupIsPending, hs]

/-- Settles O27: a group number outside 1 to 7 selects the refusal; otherwise the open list is freed and the group's
record written, and nothing else is. -/
theorem discardFreesTheOpenList : Obligations.DiscardFreesTheOpenList := by
  intro s hbusy hcode
  rw [exec_discard_of_latched s ⟨hbusy, hcode⟩]
  refine ⟨fun hout => ?refused, fun g hg hlists => ?accepted⟩
  case refused => rw [s.replyDiscard_of_groupOf_none ((groupOf_eq_none_iff _).mpr hout), State.finish_error]
  case accepted =>
    rw [s.replyDiscard_of_groupOf_some g ((groupOf_eq_some_iff _ g).mpr hg), State.finish_ok, s.freeOpens_eq]
    refine ⟨_, rfl, rfl, ?result, rfl, s.slot_freeOpens_openList g hlists⟩
    cases hs : (s.group g).state <;> simp only [State.groupIsPending, hs] <;> rfl

end Sys2Proof.Machine
end

section
/-! CHANNEL (Section 6.3): what its operand bytes name, check 2 of R112 as its conditions on those bytes, and the reply by
the channel, the configuration and the ack claim, in that order. -/

namespace Sys2Proof.Machine

/-! ### Named channels and configuration items (R179, R181) -/

theorem chanOf_eq_none_iff (b : Byte) : chanOf b = none ↔ 7 < b.toNat := by
  unfold chanOf
  split <;> simp <;> omega

theorem chanOf_eq_some_iff (b : Byte) (c : ChanNo) : chanOf b = some c ↔ b.toNat = c.val := by
  unfold chanOf
  split <;> simp [Fin.ext_iff]
  omega

theorem ChannelMode.ofCode_eq_some_iff (b : Byte) (m : ChannelMode) :
    ChannelMode.ofCode b = some m ↔ b.toNat = m.code := by
  constructor
  · intro h
    unfold ChannelMode.ofCode at h
    split at h <;> cases h <;> assumption
  · intro h
    cases m <;> simp [ChannelMode.ofCode, h, ChannelMode.code]

theorem ChannelMode.ofCode_eq_none_iff (b : Byte) : ChannelMode.ofCode b = none ↔ 4 < b.toNat := by
  unfold ChannelMode.ofCode
  split <;> simp_all
  omega

theorem EdgeSetting.ofCode_eq_some_iff (b : Byte) (e : EdgeSetting) :
    EdgeSetting.ofCode b = some e ↔ b.toNat = e.code := by
  constructor
  · intro h
    unfold EdgeSetting.ofCode at h
    split at h <;> cases h <;> assumption
  · intro h
    cases e <;> simp [EdgeSetting.ofCode, h, EdgeSetting.code]

theorem EdgeSetting.ofCode_eq_none_iff (b : Byte) : EdgeSetting.ofCode b = none ↔ 2 < b.toNat := by
  unfold EdgeSetting.ofCode
  split <;> simp_all
  omega

theorem Sense.ofCode_eq_some_iff (b : Byte) (x : Sense) : Sense.ofCode b = some x ↔ b.toNat = x.code := by
  constructor
  · intro h
    unfold Sense.ofCode at h
    split at h <;> cases h <;> assumption
  · intro h
    cases x <;> simp [Sense.ofCode, h, Sense.code]

theorem Sense.ofCode_eq_none_iff (b : Byte) : Sense.ofCode b = none ↔ 1 < b.toNat := by
  unfold Sense.ofCode
  split <;> simp_all
  omega

theorem LogPolicy.ofCode_eq_some_iff (b : Byte) (p : LogPolicy) :
    LogPolicy.ofCode b = some p ↔ b.toNat = p.code := by
  constructor
  · intro h
    unfold LogPolicy.ofCode at h
    split at h <;> cases h <;> assumption
  · intro h
    cases p <;> simp [LogPolicy.ofCode, h, LogPolicy.code]

theorem LogPolicy.ofCode_eq_none_iff (b : Byte) : LogPolicy.ofCode b = Option.none ↔ 2 < b.toNat := by
  unfold LogPolicy.ofCode
  split <;> simp_all
  omega

theorem LaunchSource.ofCode_eq_some_iff (b : Byte) (l : LaunchSource) :
    LaunchSource.ofCode b = some l ↔ b.toNat = l.code := by
  constructor
  · intro h
    unfold LaunchSource.ofCode at h
    split at h <;> cases h <;> assumption
  · intro h
    cases l <;> simp [LaunchSource.ofCode, h, LaunchSource.code]

theorem LaunchSource.ofCode_eq_none_iff (b : Byte) : LaunchSource.ofCode b = none ↔ 1 < b.toNat := by
  unfold LaunchSource.ofCode
  split <;> simp_all
  omega

/-! ### Check 2 of R112 -/

/-- Check 2 of R112 fails on an unnamed item, on the limit, or on the pair of WIDTH and BOTH, and on nothing else. -/
theorem State.channelConfig?_eq_none_iff (s : State) :
    s.channelConfig? = none ↔
      ChannelMode.ofCode (s.param 1) = none ∨ EdgeSetting.ofCode (s.param 2) = none ∨
      Sense.ofCode (s.param 7) = none ∨ LogPolicy.ofCode (s.param 8) = none ∨
      LaunchSource.ofCode (s.param 9) = none ∨
      2 ^ 31 ≤ (word (s.param 3) (s.param 4) (s.param 5) (s.param 6)).toNat ∨
      (ChannelMode.ofCode (s.param 1) = some .width ∧ EdgeSetting.ofCode (s.param 2) = some .both) := by
  rcases hmode : ChannelMode.ofCode (s.param 1) with _ | mode
  · simp [State.channelConfig?, hmode]
  rcases hedge : EdgeSetting.ofCode (s.param 2) with _ | edge
  · simp [State.channelConfig?, hedge]
  rcases hsense : Sense.ofCode (s.param 7) with _ | sense
  · simp [State.channelConfig?, hsense]
  rcases hpolicy : LogPolicy.ofCode (s.param 8) with _ | policy
  · simp [State.channelConfig?, hpolicy]
  rcases hlaunch : LaunchSource.ofCode (s.param 9) with _ | launchSource
  · simp [State.channelConfig?, hlaunch]
  · simp only [State.channelConfig?, hmode, hedge, hsense, hpolicy, hlaunch, ite_eq_left_iff, reduceCtorEq, imp_false,
      not_not, Option.some.injEq, false_or]

/-- Check 2 of R112 in numbers. -/
theorem State.channelConfig?_eq_none_iff_codes (s : State) :
    s.channelConfig? = none ↔
      4 < (s.param 1).toNat ∨ 2 < (s.param 2).toNat ∨ 1 < (s.param 7).toNat ∨ 2 < (s.param 8).toNat ∨
      1 < (s.param 9).toNat ∨ 2 ^ 31 ≤ (word (s.param 3) (s.param 4) (s.param 5) (s.param 6)).toNat ∨
      ((s.param 1).toNat = 3 ∧ (s.param 2).toNat = 2) := by
  rw [s.channelConfig?_eq_none_iff, ChannelMode.ofCode_eq_none_iff, EdgeSetting.ofCode_eq_none_iff,
    Sense.ofCode_eq_none_iff, LogPolicy.ofCode_eq_none_iff, LaunchSource.ofCode_eq_none_iff,
    ChannelMode.ofCode_eq_some_iff, EdgeSetting.ofCode_eq_some_iff]
  rfl

/-- A configuration that passes check 2 has the items whose codes the bytes give. -/
theorem State.codes_of_channelConfig?_eq_some (s : State) (cfg : ChannelConfig) (h : s.channelConfig? = some cfg) :
    cfg.mode.code = (s.param 1).toNat ∧ cfg.edge.code = (s.param 2).toNat ∧ cfg.sense.code = (s.param 7).toNat ∧
    cfg.policy.code = (s.param 8).toNat ∧ cfg.launchSource.code = (s.param 9).toNat ∧
    cfg.limit = word (s.param 3) (s.param 4) (s.param 5) (s.param 6) := by
  unfold State.channelConfig? at h
  split at h
  case h_1 hmode hedge hsense hpolicy hlaunch =>
    obtain ⟨-, hcfg⟩ := Option.ite_none_left_eq_some.mp h
    cases hcfg
    rw [ChannelMode.ofCode_eq_some_iff] at hmode
    rw [EdgeSetting.ofCode_eq_some_iff] at hedge
    rw [Sense.ofCode_eq_some_iff] at hsense
    rw [LogPolicy.ofCode_eq_some_iff] at hpolicy
    rw [LaunchSource.ofCode_eq_some_iff] at hlaunch
    exact ⟨hmode.symm, hedge.symm, hsense.symm, hpolicy.symm, hlaunch.symm, rfl⟩
  case h_2 => contradiction

/-! ### The checks of a CHANNEL in order, and its effect (R112) -/

theorem exec_channel_of_latched (s : State) (h : s.latched codeChannel) :
    exec .channel s = .next (s.finish s.replyChannel) :=
  congrArg Host.Outcome.next (if_pos h)

theorem State.replyChannel_of_chanOf_none (s : State) (hc : chanOf (s.param 0) = none) :
    s.replyChannel = .error .badChan := by
  simp only [State.replyChannel, hc]

theorem State.replyChannel_of_config_none (s : State) (c : ChanNo) (hc : chanOf (s.param 0) = some c)
    (hcfg : s.channelConfig? = none) : s.replyChannel = .error .badCfg := by
  simp only [State.replyChannel, hc, hcfg]

theorem State.replyChannel_of_config_some (s : State) (c : ChanNo) (cfg : ChannelConfig)
    (hc : chanOf (s.param 0) = some c) (hcfg : s.channelConfig? = some cfg) :
    s.replyChannel =
      if (s.channel c).ackClaim ≠ none then .error .chanBusy
      else .ok (s.setChannel c ((s.channel c).configured cfg),
        [byteOfNat (s.channel c).mode.code, byteOfNat (s.channel c).parked.length]) := by
  simp only [State.replyChannel, hc, hcfg, Option.isSome_iff_ne_none]

/-- A configured channel without an ack claim keeps nothing but its parked list. -/
theorem Channel.configured_of_unclaimed (x : Channel) (cfg : ChannelConfig) (h : x.ackClaim = none) :
    x.configured cfg =
      { mode := cfg.mode, edge := cfg.edge, limit := cfg.limit, sense := cfg.sense, policy := cfg.policy,
        launchSource := cfg.launchSource, reference := none, watch := none, violationMark := false,
        ackClaim := none, parked := x.parked } := by
  rw [Channel.configured, h]

/-- Settles O28: the channel, then the configuration, then the ack claim select the reply, and the channel's record is the
only one written. -/
theorem channelReplacesTheConfiguration : Obligations.ChannelReplacesTheConfiguration := by
  intro s hbusy hcode limit badConfig
  have hnone : s.channelConfig? = none ↔ badConfig := s.channelConfig?_eq_none_iff_codes
  have hsome (hgood : ¬ badConfig) : ∃ cfg, s.channelConfig? = some cfg :=
    Option.ne_none_iff_exists'.mp (mt hnone.mp hgood)
  rw [exec_channel_of_latched s ⟨hbusy, hcode⟩]
  refine ⟨fun habove => ?badChan, fun c hparam => ?named⟩
  case badChan => rw [s.replyChannel_of_chanOf_none ((chanOf_eq_none_iff _).mpr habove), State.finish_error]
  have hc : chanOf (s.param 0) = some c := (chanOf_eq_some_iff _ c).mpr hparam
  refine ⟨fun hbad => ?badCfg, fun hgood hclaim => ?chanBusy, fun hgood hclaim => ?accepted⟩
  case badCfg => rw [s.replyChannel_of_config_none c hc (hnone.mpr hbad), State.finish_error]
  case chanBusy =>
    obtain ⟨cfg, hcfg⟩ := hsome hgood
    rw [s.replyChannel_of_config_some c cfg hc hcfg, if_pos hclaim, State.finish_error]
  case accepted =>
    obtain ⟨cfg, hcfg⟩ := hsome hgood
    obtain ⟨hmode, hedge, hsense, hpolicy, hlaunch, hlimit⟩ := s.codes_of_channelConfig?_eq_some cfg hcfg
    refine ⟨cfg.mode, cfg.edge, cfg.sense, cfg.policy, cfg.launchSource, hmode, hedge, hsense, hpolicy, hlaunch, ?_⟩
    rw [s.replyChannel_of_config_some c cfg hc hcfg, if_neg (not_not_intro hclaim), State.finish_ok,
      Channel.configured_of_unclaimed _ cfg hclaim, hlimit]
    rfl

end Sys2Proof.Machine
end

section
/-! What the carrying out of a command leaves alone (R173): the side of the part that only bus accesses and the end of
an execution write. -/

namespace Sys2Proof.Machine

/-! ### The bus side of the state -/

/-- What only a bus access, the end of an execution, the outside or a hardware reset writes. -/
def State.busSide (s : State) : ResetPin × Vector Bool 8 × Nat × BitVec 5 × Bool × CommandUnit × Byte × List Instr :=
  (s.resetPin, s.pins, s.logThreshold, s.causeEnables, s.cmdCause, s.cu, s.busData, s.pending)

theorem State.busSide_eq_of_untouched_eq {s t : State} (h : s.untouched = t.untouched) : s.busSide = t.busSide := by
  obtain ⟨-, -, -, hpins, hreset, -, hthreshold, henables, hcmd, hcu, hbus, hpending⟩ :
      s.tb = t.tb ∧ s.latenessLimit = t.latenessLimit ∧ s.lines = t.lines ∧ s.pins = t.pins ∧ s.resetPin = t.resetPin ∧
      s.log = t.log ∧ s.logThreshold = t.logThreshold ∧ s.causeEnables = t.causeEnables ∧ s.cmdCause = t.cmdCause ∧
      s.cu = t.cu ∧ s.busData = t.busData ∧ s.pending = t.pending := by
    simpa [State.untouched] using h
  simp only [State.busSide, hpins, hreset, hthreshold, henables, hcmd, hcu, hbus, hpending]

theorem State.place_busSide (s : State) (n : SlotNo) (h : Held) : (s.place n h).busSide = s.busSide :=
  State.busSide_eq_of_untouched_eq (s.place_untouched n h)

theorem State.commitGroup_busSide (s : State) (g : GroupNo) (replace : Bool) (cause : CommitCause) :
    (s.commitGroup g replace cause).busSide = s.busSide :=
  State.busSide_eq_of_untouched_eq (s.commitGroup_untouched g replace cause)

theorem State.runEndedCommits_busSide (s : State) : s.runEndedCommits.busSide = s.busSide :=
  State.busSide_eq_of_untouched_eq (State.runCommits_untouched 7 [] s)

theorem State.unpark_busSide (s : State) (n : SlotNo) (h : Held) : (s.unpark n h).busSide = s.busSide := by
  rw [s.unpark_eq]
  rfl

theorem State.cut_busSide (s : State) (n : SlotNo) (h : Held) : (s.cut n h).busSide = s.busSide := by
  rw [State.cut, State.releaseClaims_eq]
  rfl

theorem State.complete_busSide (s : State) (n : SlotNo) (h : Held) (status : Status) :
    (s.complete n h status).busSide = s.busSide := rfl

/-! ### The carrying out of each command -/

/-- The answer is a refusal, or the state it leaves has the bus side of `s`. -/
def State.LeavesBusSide (s : State) (reply : Reply) : Prop :=
  ∀ after bytes, reply = .ok (after, bytes) → after.busSide = s.busSide

theorem State.leavesBusSide_error (s : State) (code : ResultCode) : s.LeavesBusSide (.error code) :=
  fun _ _ h => nomatch h

theorem State.leavesBusSide_ok {s after : State} {bytes : List Byte} (h : after.busSide = s.busSide) :
    s.LeavesBusSide (.ok (after, bytes)) := by
  intro _ _ heq
  cases heq
  exact h

theorem State.takeSlot_busSide (s : State) (a : Action) (n : SlotNo) : (s.takeSlot a n).busSide = s.busSide := by
  unfold State.takeSlot
  cases a.group with
  | none => exact s.place_busSide n a.posted
  | some g => rfl

theorem State.replyPost_leavesBusSide (s : State) : s.LeavesBusSide s.replyPost := by
  unfold State.replyPost
  split
  · exact s.leavesBusSide_error _
  · exact State.leavesBusSide_ok (s.takeSlot_busSide _ _)

theorem State.cancelSlot_busSide (s after : State) (n : SlotNo) (h : s.cancelSlot n = some after) :
    after.busSide = s.busSide := by
  unfold State.cancelSlot at h
  split at h <;> cases h
  case h_2 =>
    unfold State.cancelOpen
    split <;> rfl
  case h_3 => rw [State.runEndedCommits_busSide]; rfl
  case h_4 => rw [State.runEndedCommits_busSide, State.complete_busSide, State.unpark_busSide]
  case h_5 => rw [State.runEndedCommits_busSide, State.complete_busSide, State.cut_busSide]

theorem State.replyCancel_leavesBusSide (s : State) : s.LeavesBusSide s.replyCancel := by
  unfold State.replyCancel
  split
  · exact s.leavesBusSide_error _
  · split
    · exact s.leavesBusSide_error _
    · rename_i hcancel
      exact State.leavesBusSide_ok (s.cancelSlot_busSide _ _ hcancel)

theorem State.replyCommitNow_busSide (s : State) (g : GroupNo) (replace : Bool) :
    (s.replyCommitNow g replace).1.busSide = s.busSide := by
  rw [State.replyCommitNow, State.runEndedCommits_busSide, State.commitGroup_busSide]

/-- A check that refuses, or what comes after it. -/
theorem State.leavesBusSide_check (s : State) (failed : Prop) [Decidable failed] (code : ResultCode) {reply : Reply}
    (h : s.LeavesBusSide reply) : s.LeavesBusSide (if failed then .error code else reply) := by
  split
  · exact s.leavesBusSide_error code
  · exact h

theorem State.replyCommit_leavesBusSide (s : State) : s.LeavesBusSide s.replyCommit := by
  unfold State.replyCommit
  split
  · exact s.leavesBusSide_error _
  · refine s.leavesBusSide_check _ _ (s.leavesBusSide_check _ _ ?_)
    split
    · exact s.leavesBusSide_error _
    · refine s.leavesBusSide_check _ _ ?_
      split
      · exact State.leavesBusSide_ok (s.replyCommitNow_busSide _ _)
      · split
        · exact s.leavesBusSide_error _
        · split
          · exact State.leavesBusSide_ok rfl
          · exact s.leavesBusSide_error _

theorem State.replyDiscard_leavesBusSide (s : State) : s.LeavesBusSide s.replyDiscard := by
  unfold State.replyDiscard
  split
  · exact s.leavesBusSide_error _
  · refine State.leavesBusSide_ok ?_
    rw [s.freeOpens_eq]
    rfl

theorem State.replyChannel_leavesBusSide (s : State) : s.LeavesBusSide s.replyChannel := by
  unfold State.replyChannel
  split
  · exact s.leavesBusSide_error _
  · split
    · exact s.leavesBusSide_error _
    · exact s.leavesBusSide_check _ _ (State.leavesBusSide_ok rfl)

theorem State.replyLine_leavesBusSide (s : State) : s.LeavesBusSide s.replyLine := by
  unfold State.replyLine
  split
  · exact s.leavesBusSide_error _
  · split
    · exact s.leavesBusSide_error _
    · exact s.leavesBusSide_check _ _ (State.leavesBusSide_ok rfl)

theorem State.breakFiring_busSide (s : State) (l : LineNo) (n : SlotNo) : (s.breakFiring l n).busSide = s.busSide := by
  unfold State.breakFiring
  split
  · rw [State.complete_busSide, State.cut_busSide]
  · rfl

theorem State.driveLine_busSide (s : State) (l : LineNo) (isActive : Bool) :
    (s.driveLine l isActive).busSide = s.busSide := rfl

theorem State.replyForce_leavesBusSide (s : State) : s.LeavesBusSide s.replyForce := by
  unfold State.replyForce
  split
  · exact s.leavesBusSide_error _
  · split
    · exact s.leavesBusSide_error _
    · simp only
      split
      · exact State.leavesBusSide_ok rfl
      · refine s.leavesBusSide_check _ _ (State.leavesBusSide_ok ?_)
        rw [State.runEndedCommits_busSide, State.driveLine_busSide, State.breakFiring_busSide]

theorem State.replyTimebase_leavesBusSide (s : State) (operate : State → State)
    (h : (operate s).busSide = s.busSide) : s.LeavesBusSide (s.replyTimebase operate) := by
  unfold State.replyTimebase
  split
  · exact s.leavesBusSide_error _
  · exact State.leavesBusSide_ok h

theorem State.applySource_busSide (s : State) : s.applySource.busSide = s.busSide := by
  unfold State.applySource
  split <;> rfl

theorem State.replyFlush_leavesBusSide (s : State) : s.LeavesBusSide s.replyFlush := State.leavesBusSide_ok rfl

theorem State.replyLateness_leavesBusSide (s : State) : s.LeavesBusSide s.replyLateness := State.leavesBusSide_ok rfl

theorem State.quiesceSlot_busSide (s : State) (n : SlotNo) : (s.quiesceSlot n).busSide = s.busSide := by
  unfold State.quiesceSlot
  split
  case h_4 => rw [State.complete_busSide, State.unpark_busSide]
  case h_5 => rw [State.complete_busSide, State.cut_busSide]
  all_goals rfl

theorem State.emptyGroups_busSide (s : State) : s.emptyGroups.busSide = s.busSide := by
  simp only [State.busSide, State.emptyGroups]

theorem State.idleLines_busSide (s : State) : s.idleLines.busSide = s.busSide := by
  simp only [State.busSide, State.idleLines]

theorem State.clearMeasurements_busSide (s : State) : s.clearMeasurements.busSide = s.busSide := by
  simp only [State.busSide, State.clearMeasurements]

theorem State.quiesced_busSide (s : State) : s.quiesced.busSide = s.busSide := by
  rw [State.quiesced, State.clearMeasurements_busSide, State.idleLines_busSide,
    foldl_keeps State.quiesceSlot State.busSide State.quiesceSlot_busSide, State.emptyGroups_busSide]

theorem State.replyQuiesce_leavesBusSide (s : State) : s.LeavesBusSide s.replyQuiesce :=
  State.leavesBusSide_ok s.quiesced_busSide

theorem State.replyInspect_leavesBusSide (s : State) (view : Except ResultCode (List Byte)) :
    s.LeavesBusSide (s.replyInspect view) := by
  refine s.leavesBusSide_check _ _ ?_
  split
  · exact s.leavesBusSide_error _
  · exact State.leavesBusSide_ok rfl

/-! ### The rows that are executions (R173) -/

/-- The row leaves the state unchanged, or ends with an answer that left the bus side alone. -/
def State.IdlesOrFinishes (s : State) (outcome : Outcome) : Prop :=
  outcome = .next s ∨ ∃ reply, s.LeavesBusSide reply ∧ outcome = .next (s.finish reply)

theorem State.idlesOrFinishes_of_leavesBusSide {s : State} {waiting : Prop} [Decidable waiting] {reply : Reply}
    (h : s.LeavesBusSide reply) : s.IdlesOrFinishes (.next (if waiting then s.finish reply else s)) := by
  split
  · exact .inr ⟨reply, h, rfl⟩
  · exact .inl rfl

theorem exec_executionRow_idlesOrFinishes (s : State) (c : Instr) (hc : c ∈ executionRows) :
    s.IdlesOrFinishes (exec c s) := by
  cases c with
  | post => exact State.idlesOrFinishes_of_leavesBusSide s.replyPost_leavesBusSide
  | cancel => exact State.idlesOrFinishes_of_leavesBusSide s.replyCancel_leavesBusSide
  | commit => exact State.idlesOrFinishes_of_leavesBusSide s.replyCommit_leavesBusSide
  | discard => exact State.idlesOrFinishes_of_leavesBusSide s.replyDiscard_leavesBusSide
  | channel => exact State.idlesOrFinishes_of_leavesBusSide s.replyChannel_leavesBusSide
  | line => exact State.idlesOrFinishes_of_leavesBusSide s.replyLine_leavesBusSide
  | force => exact State.idlesOrFinishes_of_leavesBusSide s.replyForce_leavesBusSide
  | timebaseStart | timebaseStop | timebaseLoad =>
    exact State.idlesOrFinishes_of_leavesBusSide (s.replyTimebase_leavesBusSide _ rfl)
  | timebaseSource =>
    exact State.idlesOrFinishes_of_leavesBusSide (s.replyTimebase_leavesBusSide _ s.applySource_busSide)
  | lateness => exact State.idlesOrFinishes_of_leavesBusSide s.replyLateness_leavesBusSide
  | flush => exact State.idlesOrFinishes_of_leavesBusSide s.replyFlush_leavesBusSide
  | quiesce => exact State.idlesOrFinishes_of_leavesBusSide s.replyQuiesce_leavesBusSide
  | inspectSlot | inspectGroup | inspectChannel | inspectLines | inspectTime =>
    exact State.idlesOrFinishes_of_leavesBusSide (s.replyInspect_leavesBusSide _)
  | badcmd => exact State.idlesOrFinishes_of_leavesBusSide (s.leavesBusSide_error .badCmd)
  | _ => simp [executionRows] at hc

/-- A row that takes the command unit from busy to idle has ended an execution: CMD is set, and the level of /RESET is
as it was (R173). -/
theorem executionRow_ends {c : Instr} (hc : c ∈ executionRows) {s t : State} (hexec : exec c s = .next t)
    (hbusy : s.cu.busy = true) (hidle : t.cu.busy = false) : t.cmdCause = true ∧ t.resetPin = s.resetPin := by
  rcases exec_executionRow_idlesOrFinishes s c hc with hsame | ⟨reply, hleaves, hend⟩
  · have ht : t = s := Host.Outcome.next.inj (hexec.symm.trans hsame)
    rw [ht, hbusy] at hidle
    contradiction
  · have ht : t = s.finish reply := Host.Outcome.next.inj (hexec.symm.trans hend)
    rcases s.finish_cases reply with ⟨code, -, e⟩ | ⟨after, bytes, hok, e⟩ <;> rw [ht, e]
    · exact ⟨rfl, rfl⟩
    · exact ⟨rfl, congrArg Prod.fst (hleaves after bytes hok)⟩

end Sys2Proof.Machine
end

section
/-! The reporting unit (Chapter 8): the cause bits one by one, the accesses to ACKCAUSE, CAUSEEN and LOGMARK, and the
three outcomes of each pop. -/

namespace Sys2Proof.Machine

/-! ### Packed bits (R182) -/

theorem natOfBits_testBit (bits : List Bool) (k : Nat) : (natOfBits bits).testBit k = bits.getD k false := by
  induction bits generalizing k with
  | nil => simp [natOfBits]
  | cons b rest ih =>
    have hbit : natOfBits (b :: rest) = Nat.bit b (natOfBits rest) := by
      rw [natOfBits, Nat.bit_val, Nat.add_comm]
    rw [hbit]
    cases k with
    | zero => simp
    | succ j => rw [Nat.testBit_bit_succ, ih, List.getD_cons_succ]

theorem packBits_getLsbD (w : Nat) (bits : List Bool) (k : Nat) :
    (packBits w bits).getLsbD k = (decide (k < w) && bits.getD k false) := by
  rw [packBits, BitVec.getLsbD_ofNat, natOfBits_testBit]

theorem State.causeBits_getLsbD_done (s : State) : s.causeBits.getLsbD 0 = s.causeDone := packBits_getLsbD _ _ _
theorem State.causeBits_getLsbD_logmark (s : State) : s.causeBits.getLsbD 1 = s.causeLogmark := packBits_getLsbD _ _ _
theorem State.causeBits_getLsbD_logovr (s : State) : s.causeBits.getLsbD 2 = s.causeLogovr := packBits_getLsbD _ _ _
theorem State.causeBits_getLsbD_cmd (s : State) : s.causeBits.getLsbD 4 = s.cmdCause := packBits_getLsbD _ _ _

/-- DONE in the state's terms (R159). -/
theorem State.causeBits_done_eq_false_iff (s : State) : s.causeBits.getLsbD 0 = false ↔ s.doneQueue = [] := by
  rw [s.causeBits_getLsbD_done, State.causeDone, Bool.not_eq_false', List.isEmpty_iff]

/-- LOGMARK in the state's terms (R159). -/
theorem State.causeBits_logmark_iff (s : State) :
    s.causeBits.getLsbD 1 = true ↔ s.logThreshold ≠ 0 ∧ s.logThreshold ≤ s.log.length := by
  rw [s.causeBits_getLsbD_logmark, State.causeLogmark, Bool.and_eq_true, bne_iff_ne, decide_eq_true_iff]

/-- LOGOVR in the state's terms (R159). -/
theorem State.causeBits_logovr_iff (s : State) :
    s.causeBits.getLsbD 2 = true ↔ ∃ c ∈ s.log, c.overrun = true := by
  rw [s.causeBits_getLsbD_logovr, State.causeLogovr, List.any_eq_true]

theorem and_bne_zero_iff {w : Nat} (x y : BitVec w) :
    (x &&& y != 0) = true ↔ ∃ k < w, x.getLsbD k = true ∧ y.getLsbD k = true := by
  rw [bne_iff_ne, ne_eq, BitVec.eq_of_getLsbD_eq_iff]
  simp

/-- /IRQ in bits (R164). -/
theorem State.irqAsserted_iff (s : State) :
    s.irqAsserted = true ↔ ∃ k < 5, s.causeBits.getLsbD k = true ∧ s.causeEnables.getLsbD k = true :=
  and_bne_zero_iff _ _

/-! ### Accesses while /RESET is released (R168) -/

theorem State.access_of_released {s : State} (after : State) (h : s.resetPin = .released) : s.access after = after := by
  rw [State.access, h]

theorem State.readWindow_of_released {s : State} (offset : BitVec 5) (h : s.resetPin = .released) :
    s.readWindow offset = s.location offset := by
  rw [State.readWindow, h]

theorem State.readWindow_ackcause {s : State} (h : s.resetPin = .released) :
    s.readWindow 0x01 = s.causeBits.zeroExtend 8 :=
  s.readWindow_of_released _ h

theorem State.readWindow_causeen {s : State} (h : s.resetPin = .released) :
    s.readWindow 0x02 = s.causeEnables.zeroExtend 8 :=
  s.readWindow_of_released _ h

theorem State.readWindow_logmark {s : State} (h : s.resetPin = .released) :
    s.readWindow 0x03 = byteOfNat s.logThreshold :=
  s.readWindow_of_released _ h

theorem State.pop_of_released {s : State} (popped : State) (h : s.resetPin = .released) : s.pop popped = popped := by
  rw [State.pop, h]

/-! ### ACKCAUSE (R162) -/

theorem State.writeAckcause_eq (s : State) (v : Byte) :
    s.writeAckcause v = { s with cmdCause := if v.getLsbD 4 then false else s.cmdCause } := by
  rw [State.writeAckcause]
  cases v.getLsbD 4 <;> simp

theorem exec_ackcause_of_released (v : Byte) {s : State} (h : s.resetPin = .released) :
    exec (.ackcause v) s = .next { s with cmdCause := if v.getLsbD 4 then false else s.cmdCause } :=
  congrArg Host.Outcome.next ((State.access_of_released _ h).trans (s.writeAckcause_eq v))

/-- Settles O9: an execution ends only with CMD set, and a write of 1 in CMD's place leaves it clear, so the later of
the two decides. -/
theorem ackcauseClearsOnlyCmd : Obligations.AckcauseClearsOnlyCmd := by
  intro v s hreleased
  refine ⟨exec_ackcause_of_released v hreleased, State.readWindow_ackcause hreleased, s.causeBits_getLsbD_cmd,
    fun c hc t u hbusy _ hwrite hend hidle => ?writeFirst, fun c hc t u hbusy hbit hend hidle hwrite => ?endFirst⟩
  case writeFirst =>
    have ht := Host.Outcome.next.inj ((exec_ackcause_of_released v hreleased).symm.trans hwrite)
    have hwaiting : t.cu.busy = true := ht ▸ hbusy
    exact (executionRow_ends hc hend hwaiting hidle).1
  case endFirst =>
    have hpin : t.resetPin = .released := (executionRow_ends hc hend hbusy hidle).2.trans hreleased
    have hu := Host.Outcome.next.inj (hwrite.symm.trans (exec_ackcause_of_released v hpin))
    rw [hu, hbit]
    exact ⟨rfl, rfl⟩

/-! ### CAUSEEN (R163) -/

theorem exec_causeen_of_released (v : Byte) {s : State} (h : s.resetPin = .released) :
    exec (.causeen v) s = .next (s.writeCauseen v) :=
  congrArg Host.Outcome.next (State.access_of_released _ h)

theorem State.writeCauseen_getLsbD (s : State) (v : Byte) (k : Nat) :
    (s.writeCauseen v).causeEnables.getLsbD k = (decide (k < 5) && v.getLsbD k) := by
  rw [State.writeCauseen, BitVec.getLsbD_extractLsb', Nat.zero_add]

/-- Settles O10: the enables are the low five bits of the byte, and no cause reads them. -/
theorem causeenReplacesTheEnables : Obligations.CauseenReplacesTheEnables := by
  intro v s hreleased
  have henable : ∀ k < 5, (s.writeCauseen v).causeEnables.getLsbD k = v.getLsbD k := by
    intro k hk
    rw [s.writeCauseen_getLsbD, decide_eq_true hk, Bool.true_and]
  refine ⟨_, exec_causeen_of_released v hreleased, rfl, henable, fun k => ?read, rfl, ?irq⟩
  case read =>
    have hread : (s.writeCauseen v).readWindow 0x02 = (s.writeCauseen v).causeEnables.zeroExtend 8 :=
      State.readWindow_causeen hreleased
    rw [hread, BitVec.getLsbD_setWidth, s.writeCauseen_getLsbD, ← Bool.and_assoc, ← Bool.decide_and]
    exact congrArg (· && v.getLsbD k) (decide_eq_decide.mpr (and_iff_right_of_imp fun hk => by omega))
  case irq =>
    rw [State.irqAsserted_iff]
    exact exists_congr fun k => and_congr_right fun hk => by rw [henable k hk]; rfl

/-! ### LOGMARK (R158) -/

/-- The clamp of a threshold (R158). -/
def clampedThreshold (v : Byte) : Nat := if 32 < v.toNat then 32 else v.toNat

theorem clampedThreshold_lt_256 (v : Byte) : clampedThreshold v < 256 := by
  unfold clampedThreshold
  split <;> omega

theorem State.writeLogmark_eq (s : State) (v : Byte) :
    s.writeLogmark v = { s with logThreshold := clampedThreshold v } := by
  have hmin : min v.toNat Config.logCapacity = clampedThreshold v := by
    rw [Config.logCapacity, clampedThreshold]
    split <;> omega
  rw [State.writeLogmark, hmin]

theorem exec_logmark_of_released (v : Byte) {s : State} (h : s.resetPin = .released) :
    exec (.logmark v) s = .next (s.writeLogmark v) :=
  congrArg Host.Outcome.next (State.access_of_released _ h)

/-- Settles O11: the stored threshold is at most 32, so a byte shows it whole. -/
theorem logmarkStoresTheThreshold : Obligations.LogmarkStoresTheThreshold := by
  intro v s hreleased
  refine ⟨_, exec_logmark_of_released v hreleased, s.writeLogmark_eq v, ?read, State.causeBits_logmark_iff _⟩
  have hread : (s.writeLogmark v).readWindow 0x03 = byteOfNat (clampedThreshold v) := by
    rw [s.writeLogmark_eq]
    exact State.readWindow_logmark hreleased
  rw [hread]
  exact Nat.mod_eq_of_lt (clampedThreshold_lt_256 v)

/-! ### The result buffer after a pop (R149, R155, R183, R184) -/

/-- A result buffer shows the bytes of a result in order and 0x00 in every other position (R175). -/
theorem resultBytes_eq_of_toList {l : List Byte} {buffer : Vector Byte 16}
    (h : buffer.toList = l ++ List.replicate (16 - l.length) 0) : resultBytes l = buffer := by
  refine Vector.ext fun k hk => ?_
  have hkth : buffer[k] = (l ++ List.replicate (16 - l.length) 0)[k]'(by simp; omega) := by
    simp only [← h, Vector.getElem_toList]
  rw [resultBytes, Vector.getElem_ofFn, hkth, List.getD_eq_getElem?_getD, List.getElem_append]
  split
  · rename_i hin
    rw [List.getElem?_eq_getElem hin, Option.getD_some]
  · rename_i hout
    rw [List.getElem?_eq_none (Nat.le_of_not_lt hout), Option.getD_none, List.getElem_replicate]

/-- The flags of a capture record as a number (R184). -/
theorem packBits_four (a b c d : Bool) :
    packBits 8 [a, b, c, d] = BitVec.ofNat 8 (a.toNat + 2 * b.toNat + 4 * c.toNat + 8 * d.toNat) := by
  rw [packBits]
  simp only [natOfBits]
  congr 1
  omega

theorem CaptureSource.byte_toNat (source : CaptureSource) :
    source.byte.toNat = match source with
      | .action n => n.val
      | .channel ch => 128 + ch.val := by
  cases source with
  | action n => exact Nat.mod_eq_of_lt (by omega)
  | channel ch => exact Nat.mod_eq_of_lt (by omega)

/-- The result buffer that shows a completion record (R183). -/
def completionBuffer (n : SlotNo) (h : Held) (status : Status) (time : Tick) : Vector Byte 16 :=
  #v[BitVec.ofNat 8 n.val, BitVec.ofNat 8 status.code, h.action.tag, BitVec.ofNat 8 h.action.kind.code,
    (match h.action.line, h.action.channel with
      | some l, _ => BitVec.ofNat 8 l.val
      | none, some c => BitVec.ofNat 8 c.val
      | none, none => 0xFF#8),
    h.missed, h.fired.extractLsb' 0 8, h.fired.extractLsb' 8 8,
    time.extractLsb' 0 8, time.extractLsb' 8 8, time.extractLsb' 16 8, time.extractLsb' 24 8,
    h.worstLateness.extractLsb' 0 8, h.worstLateness.extractLsb' 8 8,
    h.ackLatency.extractLsb' 0 8, h.ackLatency.extractLsb' 8 8]

/-- The result buffer that shows a capture record: fourteen bytes, then two of 0x00 (R184). -/
def captureBuffer (c : Capture) : Vector Byte 16 :=
  #v[c.source.byte, BitVec.ofNat 8 c.kind.code,
    BitVec.ofNat 8 (c.edge.toNat + 2 * c.violation.toNat + 4 * c.interval.isSome.toNat + 8 * c.overrun.toNat),
    c.tag, c.timestamp.extractLsb' 0 8, c.timestamp.extractLsb' 8 8, c.timestamp.extractLsb' 16 8,
    c.timestamp.extractLsb' 24 8,
    (c.interval.getD 0).extractLsb' 0 8, (c.interval.getD 0).extractLsb' 8 8,
    (c.interval.getD 0).extractLsb' 16 8, (c.interval.getD 0).extractLsb' 24 8,
    c.extra.extractLsb' 0 8, c.extra.extractLsb' 8 8, 0, 0]

theorem resultBytes_completionRecord (n : SlotNo) (h : Held) (status : Status) (time : Tick) :
    resultBytes (completionRecord n h status time) = completionBuffer n h status time := by
  refine resultBytes_eq_of_toList ?_
  unfold completionRecord completionBuffer
  cases h.action.line <;> cases h.action.channel <;> rfl

theorem resultBytes_captureRecord (c : Capture) : resultBytes (captureRecord c) = captureBuffer c := by
  refine resultBytes_eq_of_toList ?_
  rw [captureRecord, packBits_four]
  rfl

/-! ### DONEPOP (R149) -/

theorem exec_donepop_of_busy {s : State} (h : s.resetPin = .released) (hbusy : s.cu.busy = true) :
    exec .donepop s = .next (s.drive 0xFE#8) := by
  simp only [exec, execDonepop, State.pop_of_released _ h, hbusy, if_true, Config.popBusy]

theorem exec_donepop_of_empty {s : State} (h : s.resetPin = .released) (hidle : s.cu.busy = false)
    (hqueue : s.doneQueue = []) : exec .donepop s = .next (s.drive 0xFF#8) := by
  simp only [exec, execDonepop, State.pop_of_released _ h, hidle, hqueue, Bool.false_eq_true, if_false, Config.popEmpty]

theorem exec_donepop_of_cons {s : State} (h : s.resetPin = .released) (hidle : s.cu.busy = false) {n : SlotNo}
    {rest : List SlotNo} (hqueue : s.doneQueue = n :: rest) :
    exec .donepop s = .next ((s.popDone n rest).drive (byteOfNat n.val)) := by
  simp only [exec, execDonepop, State.pop_of_released _ h, hidle, hqueue, Bool.false_eq_true, if_false]

theorem State.popDone_of_complete {s : State} {n : SlotNo} {h : Held} {status : Status} {time : Tick}
    (hslot : s.slot n = .complete h status time) (rest : List SlotNo) :
    s.popDone n rest =
      { s with
        doneQueue := rest
        slots := s.slots.set n.val .free n.isLt
        cu := { s.cu with result := resultBytes (completionRecord n h status time) } } := by
  rw [State.popDone, hslot]
  rfl

/-- Settles O13: with the unit not busy the head of the queue selects the outcome, and the slot's record there is the
one R183 lays out. -/
theorem donepopOutcomes : Obligations.DonepopOutcomes := by
  intro s hreleased
  refine ⟨exec_donepop_of_busy hreleased, exec_donepop_of_empty hreleased,
    fun n rest h status time hidle hqueue hslot => ⟨_, exec_donepop_of_cons hreleased hidle hqueue, ?effect, ?done⟩⟩
  case effect =>
    rw [State.popDone_of_complete hslot, resultBytes_completionRecord]
    rfl
  case done =>
    rw [State.popDone_of_complete hslot]
    exact State.causeBits_done_eq_false_iff _

/-! ### LOGPOP (R155) -/

theorem exec_logpop_of_busy {s : State} (h : s.resetPin = .released) (hbusy : s.cu.busy = true) :
    exec .logpop s = .next (s.drive 0xFE#8) := by
  simp only [exec, execLogpop, State.pop_of_released _ h, hbusy, if_true, Config.popBusy]

theorem exec_logpop_of_empty {s : State} (h : s.resetPin = .released) (hidle : s.cu.busy = false)
    (hlog : s.log = []) : exec .logpop s = .next (s.drive 0xFF#8) := by
  simp only [exec, execLogpop, State.pop_of_released _ h, hidle, hlog, Bool.false_eq_true, if_false, Config.popEmpty]

theorem exec_logpop_of_cons {s : State} (h : s.resetPin = .released) (hidle : s.cu.busy = false) {c : Capture}
    {rest : List Capture} (hlog : s.log = c :: rest) :
    exec .logpop s = .next (((s.setLog rest).writeResult (captureRecord c)).drive c.source.byte) := by
  simp only [exec, execLogpop, State.pop_of_released _ h, hidle, hlog, Bool.false_eq_true, if_false]

/-- Settles O14: with the unit not busy the head of the log selects the outcome, and the two causes read the rest of the
log. -/
theorem logpopOutcomes : Obligations.LogpopOutcomes := by
  intro s hreleased
  refine ⟨exec_logpop_of_busy hreleased, exec_logpop_of_empty hreleased, fun c rest hidle hlog =>
    ⟨_, c.source.byte, exec_logpop_of_cons hreleased hidle hlog, ?source, ?effect, State.causeBits_logovr_iff _,
      State.causeBits_logmark_iff _⟩⟩
  case source => exact c.source.byte_toNat
  case effect =>
    rw [State.writeResult, resultBytes_captureRecord]
    rfl

end Sys2Proof.Machine
end

section
/-! What the events of the timebase, the channels and the calendar leave alone (R24, R48, R109): the side of the part
that only bus accesses and the end of an execution write. -/

namespace Sys2Proof.Machine

/-! ### Record writes -/

@[simp] theorem State.setSlot_busSide (s : State) (n : SlotNo) (x : Slot) : (s.setSlot n x).busSide = s.busSide := rfl
@[simp] theorem State.setChannel_busSide (s : State) (c : ChanNo) (x : Channel) :
    (s.setChannel c x).busSide = s.busSide := rfl
@[simp] theorem State.setCalendar_busSide (s : State) (x : List Entry) : (s.setCalendar x).busSide = s.busSide := rfl
@[simp] theorem State.insert_busSide (s : State) (n : SlotNo) (phase : Phase) (due : Tick) :
    (s.insert n phase due).busSide = s.busSide := rfl

@[simp] theorem State.onLine_busSide (s : State) (o : Option LineNo) (f : Line → Line) :
    (s.onLine o f).busSide = s.busSide := by
  rw [s.onLine_eq]
  rfl

@[simp] theorem State.onChannel_busSide (s : State) (o : Option ChanNo) (f : Channel → Channel) :
    (s.onChannel o f).busSide = s.busSide := by
  rw [s.onChannel_eq]
  rfl

@[simp] theorem State.appendCapture_busSide (s : State) (c : Capture) : (s.appendCapture c).busSide = s.busSide := by
  rw [s.appendCapture_eq]
  rfl

@[simp] theorem State.releaseClaims_busSide (s : State) (h : Held) : (s.releaseClaims h).busSide = s.busSide := by
  rw [s.releaseClaims_eq]
  rfl

@[simp] theorem State.launch_busSide (s : State) (ch : ChanNo) (trigger : Tick) :
    (s.launch ch trigger).busSide = s.busSide :=
  State.busSide_eq_of_untouched_eq (s.launch_untouched ch trigger).1

@[simp] theorem State.continuation_busSide (s : State) (n : SlotNo) (h : Held) (base : Tick) (behind : Nat) :
    (s.continuation n h base behind).busSide = s.busSide := by
  rcases s.continuation_cases n h base behind with ⟨-, e⟩ | ⟨-, -, e⟩ | ⟨-, -, -, e⟩ | ⟨-, -, -, e⟩ <;> rw [e]
  case inr.inr.inl => rw [State.park_eq]; rfl
  all_goals rfl

/-- A change made under a condition leaves the bus side alone where the change does. -/
theorem State.busSide_ite {s t u : State} (p : Prop) [Decidable p] (ht : t.busSide = s.busSide)
    (hu : u.busSide = s.busSide) : (if p then t else u).busSide = s.busSide := by
  split
  · exact ht
  · exact hu

/-! ### The timebase (R22, R23) -/

theorem State.takeDueAdvance_busSide (s : State) : s.takeDueAdvance.busSide = s.busSide :=
  State.busSide_ite _ rfl rfl

/-! ### The channels (R115 to R124, R137, R141) -/

@[simp] theorem State.logChannel_busSide (s : State) (ch : ChanNo) (record : Capture) :
    (s.logChannel ch record).busSide = s.busSide :=
  State.busSide_ite _ (s.appendCapture_busSide record) rfl

theorem State.expireWatch_busSide (s : State) (ch : ChanNo) (d : Tick) : (s.expireWatch ch d).busSide = s.busSide :=
  State.busSide_ite _ (by simp) (by simp)

theorem State.takeReachedWatch_busSide (s : State) (ch : ChanNo) : (s.takeReachedWatch ch).busSide = s.busSide := by
  unfold State.takeReachedWatch
  split
  · rfl
  · exact s.expireWatch_busSide ch _

theorem State.dropReference_busSide (s : State) (ch : ChanNo) : (s.dropReference ch).busSide = s.busSide := rfl

theorem State.catchUp_busSide (s : State) (ch : ChanNo) : (s.catchUp ch).busSide = s.busSide := by
  have hexpired : ∀ d, (if distance s.now d < 0 then s.expireWatch ch d else s).busSide = s.busSide :=
    fun d => State.busSide_ite _ (s.expireWatch_busSide ch d) rfl
  unfold State.catchUp
  simp only
  cases (s.channel ch).watch with
  | none =>
    cases (s.channel ch).reference with
    | none => rfl
    | some r => exact State.busSide_ite _ (s.dropReference_busSide ch) rfl
  | some d =>
    cases (s.channel ch).reference with
    | none => exact hexpired d
    | some r => exact State.busSide_ite _ ((State.dropReference_busSide _ ch).trans (hexpired d)) (hexpired d)

theorem State.stampEdge_busSide (s : State) (ch : ChanNo) (dir : EdgeDir) : (s.stampEdge ch dir).busSide = s.busSide :=
  State.busSide_ite _ (by simp) (by simp)

theorem State.openInterval_busSide (s : State) (ch : ChanNo) : (s.openInterval ch).busSide = s.busSide :=
  State.busSide_ite _ (by simp) (by simp)

@[simp] theorem State.logInterval_busSide (s : State) (ch : ChanNo) (dir : EdgeDir) (reference : Tick) :
    (s.logInterval ch dir reference).busSide = s.busSide :=
  s.logChannel_busSide ch _

theorem State.periodEdge_busSide (s : State) (ch : ChanNo) (dir : EdgeDir) :
    (s.periodEdge ch dir).busSide = s.busSide := by
  unfold State.periodEdge
  split
  · exact s.openInterval_busSide ch
  · exact State.busSide_ite _ (by simp) (by simp)

theorem State.widthClose_busSide (s : State) (ch : ChanNo) (dir : EdgeDir) :
    (s.widthClose ch dir).busSide = s.busSide := by
  unfold State.widthClose
  split
  · rfl
  · exact State.busSide_ite _ (by simp) (by simp)

theorem State.acknowledge_busSide (s : State) (ch : ChanNo) (dir : EdgeDir) (n : SlotNo) :
    (s.acknowledge ch dir n).busSide = s.busSide := by
  unfold State.acknowledge
  simp only
  split
  · rw [State.runEndedCommits_busSide, State.continuation_busSide, State.cut_busSide, State.logChannel_busSide]
  · rw [State.setChannel_busSide, State.logChannel_busSide]

theorem State.ackEdge_busSide (s : State) (ch : ChanNo) (dir : EdgeDir) : (s.ackEdge ch dir).busSide = s.busSide := by
  unfold State.ackEdge
  split
  · exact s.acknowledge_busSide ch dir _
  · exact s.logChannel_busSide ch _

theorem State.observeEdge_busSide (s : State) (ch : ChanNo) (dir : EdgeDir) :
    (s.observeEdge ch dir).busSide = s.busSide := by
  have hcaught := s.catchUp_busSide ch
  unfold State.observeEdge
  simp only
  cases (s.channel ch).mode with
  | off => rfl
  | stamp => exact State.busSide_ite _ (s.stampEdge_busSide ch dir) rfl
  | period => exact State.busSide_ite _ ((State.periodEdge_busSide _ ch dir).trans hcaught) rfl
  | width =>
    exact State.busSide_ite _ ((State.openInterval_busSide _ ch).trans hcaught)
      ((State.widthClose_busSide _ ch dir).trans hcaught)
  | ack => exact State.busSide_ite _ (s.ackEdge_busSide ch dir) rfl

/-! ### The releases (R46, R47, R60 to R75) -/

@[simp] theorem State.logFired_busSide (s : State) (n : SlotNo) (h : Held) (lateness : Nat) :
    (s.logFired n h lateness).busSide = s.busSide :=
  State.busSide_ite _ (s.appendCapture_busSide _) rfl

@[simp] theorem State.logMiss_busSide (s : State) (n : SlotNo) (h : Held) (reason : Status) :
    (s.logMiss n h reason).busSide = s.busSide :=
  State.busSide_ite _ (s.appendCapture_busSide _) rfl

@[simp] theorem State.continueLead_busSide (s : State) (e : Entry) (h : Held) :
    (s.continueLead e h).busSide = s.busSide :=
  s.continuation_busSide _ _ _ _

theorem State.refuseAttempt_busSide (s : State) (e : Entry) (h : Held) (reason : Status) :
    (s.refuseAttempt e h reason).busSide = s.busSide :=
  State.busSide_ite _ (s.complete_busSide e.slot h reason) (by simp)

@[simp] theorem State.beginFiring_busSide (s : State) (e : Entry) (h : Held) :
    (s.beginFiring e h).busSide = s.busSide := by
  rw [State.beginFiring, State.insert_busSide, State.setSlot_busSide]
  exact State.busSide_ite _ (by simp) (by simp)

theorem State.performAttempt_busSide (s : State) (e : Entry) (h : Held) :
    (s.performAttempt e h).busSide = s.busSide := by
  unfold State.performAttempt
  cases h.action.kind <;> simp

theorem State.attempt_busSide (s : State) (e : Entry) (h : Held) : (s.attempt e h).busSide = s.busSide := by
  unfold State.attempt
  split
  · exact s.refuseAttempt_busSide e _ _
  · exact s.performAttempt_busSide e _

theorem State.releaseLead_busSide (s : State) (e : Entry) (rest : List Entry) :
    (s.releaseLead e rest).busSide = s.busSide := by
  unfold State.releaseLead
  split
  · rw [State.runFiredCommits, State.busSide_eq_of_untouched_eq (State.runCommits_untouched 7 _ _),
      State.attempt_busSide, State.setCalendar_busSide]
  · rfl

theorem State.trail_busSide (s : State) (n : SlotNo) (h : Held) (leadDue : Tick) (behind : Nat) :
    (s.trail n h leadDue behind).busSide = s.busSide := by
  rw [State.trail, State.continuation_busSide, State.releaseClaims_busSide]

theorem State.timeout_busSide (s : State) (n : SlotNo) (h : Held) : (s.timeout n h).busSide = s.busSide := by
  rw [State.timeout, State.complete_busSide, State.releaseClaims_busSide]

theorem State.releaseEnd_busSide (s : State) (e : Entry) (rest : List Entry) :
    (s.releaseEnd e rest).busSide = s.busSide := by
  unfold State.releaseEnd
  split
  · refine State.busSide_ite _ ?timeout ?trail
    case timeout => rw [State.runEndedCommits_busSide, State.timeout_busSide, State.setCalendar_busSide]
    case trail => rw [State.runEndedCommits_busSide, State.trail_busSide, State.setCalendar_busSide]
  · rfl

end Sys2Proof.Machine
end

section
/-! The command unit as the bus reaches it (Section 9.2): the codes of the named values, the write to CMD, and the
parameter buffer with what every command leaves of it. -/

namespace Sys2Proof.Machine

/-! ### The codes of the named values (R179) -/

/-- Settles O2: each reader of a code answers a value exactly for that value's code. -/
theorem namedValueCodes : Obligations.NamedValueCodes :=
  ⟨⟨rfl, Kind.ofCode_eq_some_iff⟩, ⟨rfl, TimingMode.ofCode_eq_some_iff⟩, fun _ _ _ _ _ => rfl, rfl,
    ⟨rfl, ChannelMode.ofCode_eq_some_iff⟩, ⟨rfl, EdgeSetting.ofCode_eq_some_iff⟩, ⟨rfl, Sense.ofCode_eq_some_iff⟩,
    ⟨rfl, LogPolicy.ofCode_eq_some_iff⟩, ⟨rfl, LaunchSource.ofCode_eq_some_iff⟩, fun _ _ => rfl, rfl, rfl, rfl⟩

/-! ### The write to CMD (R171, R172) -/

theorem State.writeCmd_of_idle (code : Byte) {s : State} (h : s.cu.busy = false) :
    s.writeCmd code =
      { s with
        cu := { s.cu with code := code, latch := s.cu.params, busy := true, overrun := false }
        cmdCause := false } := by
  simp only [State.writeCmd, h, Bool.false_eq_true, if_false]

theorem State.writeCmd_of_busy (code : Byte) {s : State} (h : s.cu.busy = true) :
    s.writeCmd code = { s with cu := { s.cu with overrun := true } } := by
  simp only [State.writeCmd, h, if_true, State.setCommandUnit]

theorem exec_taking_of_released (code : Byte) {s : State} (h : s.resetPin = .released) :
    exec (.taking code) s = .next (s.writeCmd code) :=
  congrArg Host.Outcome.next (State.access_of_released _ h)

theorem State.readWindow_donepop_of_busy {s : State} (h : s.resetPin = .released) (hbusy : s.cu.busy = true) :
    s.readWindow 0x06 = 0xFE#8 :=
  (s.readWindow_of_released _ h).trans (if_pos hbusy)

theorem State.readWindow_logpop_of_busy {s : State} (h : s.resetPin = .released) (hbusy : s.cu.busy = true) :
    s.readWindow 0x07 = 0xFE#8 :=
  (s.readWindow_of_released _ h).trans (if_pos hbusy)

/-- Settles O6: a write to CMD has the two outcomes that busy selects, and the first leaves the unit busy for both
pops. -/
theorem takingLatchesTheCommand : Obligations.TakingLatchesTheCommand := by
  intro code s hreleased
  refine ⟨fun hidle => ⟨_, ?taken, rfl, ?donepop, ?logpop⟩, fun hbusy => ?overrun⟩
  case taken => rw [exec_taking_of_released code hreleased, State.writeCmd_of_idle code hidle]
  case donepop => exact State.readWindow_donepop_of_busy hreleased rfl
  case logpop => exact State.readWindow_logpop_of_busy hreleased rfl
  case overrun => rw [exec_taking_of_released code hreleased, State.writeCmd_of_busy code hbusy]

/-! ### The places of the parameter and result buffers (R167, R169) -/

/-- The offset of byte `k` of the parameter buffer, where a read finds byte `k` of the result buffer. -/
theorem bufferOffset_toNat (k : Fin 16) : (BitVec.ofNat 5 (16 + k.val)).toNat = 16 + k.val :=
  Nat.mod_eq_of_lt (by omega)

theorem State.writeWindow_buffer (s : State) (k : Fin 16) (v : Byte) :
    s.writeWindow (BitVec.ofNat 5 (16 + k.val)) v = s.writeParam k v := by
  have hoffset := bufferOffset_toNat k
  unfold State.writeWindow
  split
  case h_6 =>
    simp only [hoffset, Nat.add_sub_cancel_left]
    exact dif_pos (by omega)
  all_goals omega

theorem State.location_buffer (s : State) (k : Fin 16) :
    s.location (BitVec.ofNat 5 (16 + k.val)) = s.cu.result.get k := by
  have hoffset := bufferOffset_toNat k
  unfold State.location
  split
  case h_10 =>
    simp only [hoffset, Nat.add_sub_cancel_left]
    exact dif_pos (by omega)
  all_goals omega

theorem exec_registerWrite_of_released (o : BitVec 5) (v : Byte) {s : State} (h : s.resetPin = .released) :
    exec (.registerWrite o v) s = .next (s.writeWindow o v) :=
  congrArg Host.Outcome.next (State.access_of_released _ h)

/-! ### What keeps the parameter buffer (R169) -/

/-- Where the outcome is a next state, its parameter buffer is that of `s`. -/
def State.KeepsParams (s : State) (outcome : Outcome) : Prop := ∀ t, outcome = .next t → t.cu.params = s.cu.params

theorem State.keepsParams_next {s t : State} (h : t.cu.params = s.cu.params) : s.KeepsParams (.next t) := by
  rintro _ ⟨⟩
  exact h

theorem State.params_eq_of_busSide_eq {s t : State} (h : t.busSide = s.busSide) : t.cu.params = s.cu.params :=
  congrArg (fun side => side.2.2.2.2.2.1.params) h

/-- An event that acts only while its condition holds, and then leaves the bus side alone. -/
theorem State.keepsParams_event {s t : State} {occurs : Prop} [Decidable occurs] (h : t.busSide = s.busSide) :
    s.KeepsParams (.next (if occurs then t else s)) :=
  State.keepsParams_next (State.params_eq_of_busSide_eq (State.busSide_ite _ h rfl))

theorem State.keepsParams_access {s after : State} (h : after.cu.params = s.cu.params) :
    s.KeepsParams (.next (s.access after)) := by
  refine State.keepsParams_next ?_
  unfold State.access
  split
  · rfl
  · exact h

theorem State.keepsParams_pop {s popped : State} (h : popped.cu.params = s.cu.params) :
    s.KeepsParams (.next (s.pop popped)) := by
  refine State.keepsParams_next ?_
  unfold State.pop
  split
  · rfl
  · exact h

theorem State.writeCmd_params (s : State) (code : Byte) : (s.writeCmd code).cu.params = s.cu.params := by
  unfold State.writeCmd
  split <;> rfl

/-- Below the parameter buffer no place of the window stores into it. -/
theorem State.writeWindow_params (s : State) (o : BitVec 5) (v : Byte) (ho : o.toNat < 16) :
    (s.writeWindow o v).cu.params = s.cu.params := by
  unfold State.writeWindow
  split
  case h_1 => exact s.writeCmd_params v
  case h_6 => rw [dif_neg (by omega)]
  all_goals rfl

theorem State.writeResult_params (s : State) (bytes : List Byte) : (s.writeResult bytes).cu.params = s.cu.params := by
  simp only [State.writeResult]

theorem State.accepted_params (s : State) (bytes : List Byte) : (s.accepted bytes).cu.params = s.cu.params := by
  simp only [State.accepted]

theorem State.drive_cu (s : State) (b : Byte) : (s.drive b).cu = s.cu := rfl

theorem State.popDone_params (s : State) (n : SlotNo) (rest : List SlotNo) :
    (s.popDone n rest).cu.params = s.cu.params := by
  unfold State.popDone
  split
  · rw [State.setSlot_cu, State.writeResult_params]
  · rfl

/-- The end of an execution writes the result and the status, not the parameters (R173). -/
theorem State.finish_params {s : State} {reply : Reply} (h : s.LeavesBusSide reply) :
    (s.finish reply).cu.params = s.cu.params := by
  rcases s.finish_cases reply with ⟨code, -, e⟩ | ⟨after, bytes, hok, e⟩ <;> rw [e]
  · rfl
  · rw [State.accepted_params, State.params_eq_of_busSide_eq (h after bytes hok)]

theorem exec_executionRow_keepsParams (s : State) (c : Instr) (hc : c ∈ executionRows) : s.KeepsParams (exec c s) := by
  rcases exec_executionRow_idlesOrFinishes s c hc with e | ⟨reply, hleaves, e⟩ <;> rw [e]
  · exact State.keepsParams_next rfl
  · exact State.keepsParams_next (State.finish_params hleaves)

theorem exec_donepop_keepsParams (s : State) : s.KeepsParams (exec .donepop s) := by
  refine State.keepsParams_pop ?_
  split
  · rfl
  · split
    · rfl
    · rw [State.drive_cu, s.popDone_params]

theorem exec_logpop_keepsParams (s : State) : s.KeepsParams (exec .logpop s) := by
  refine State.keepsParams_pop ?_
  split
  · rfl
  · split
    · rfl
    · rw [State.drive_cu, State.writeResult_params, State.setLog_cu]

theorem exec_edge_keepsParams (s : State) (ch : ChanNo) (dir : EdgeDir) : s.KeepsParams (exec (.edge ch dir) s) := by
  have hobserved :
      ((s.setPin ch (edgeFlag dir)).observeEdge ch dir).cu.params = (s.setPin ch (edgeFlag dir)).cu.params :=
    State.params_eq_of_busSide_eq (State.observeEdge_busSide _ ch dir)
  refine State.keepsParams_next ?_
  split
  · exact hobserved
  · rfl

theorem exec_leadRelease_keepsParams (s : State) : s.KeepsParams (exec .leadRelease s) := by
  refine State.keepsParams_next (State.params_eq_of_busSide_eq ?_)
  split
  · rfl
  · exact State.busSide_ite _ (s.releaseLead_busSide _ _) rfl

theorem exec_endRelease_keepsParams (s : State) : s.KeepsParams (exec .endRelease s) := by
  refine State.keepsParams_next (State.params_eq_of_busSide_eq ?_)
  split
  · rfl
  · exact State.busSide_ite _ (s.releaseEnd_busSide _ _) rfl

/-- Every command but a hardware reset and a write to the buffer's own places keeps the parameter buffer. -/
theorem exec_keepsParams (c : Instr) (s : State) (hreset : c ≠ .hardwareReset)
    (hwrite : ∀ o v, c = .registerWrite o v → o.toNat < 16) : s.KeepsParams (exec c s) := by
  cases c with
  | taking code => exact State.keepsParams_access (s.writeCmd_params code)
  | ackcause v | causeen v | logmark v | groupdone v => exact State.keepsParams_access rfl
  | registerWrite o v => exact State.keepsParams_access (s.writeWindow_params o v (hwrite o v rfl))
  | donepop => exact exec_donepop_keepsParams s
  | logpop => exact exec_logpop_keepsParams s
  | hardwareReset => exact absurd rfl hreset
  | sourceEdge pin => exact State.keepsParams_event s.takeDueAdvance_busSide
  | advance => exact State.keepsParams_event s.takeDueAdvance_busSide
  | edge ch dir => exact exec_edge_keepsParams s ch dir
  | watchExpiry ch => exact State.keepsParams_event (s.takeReachedWatch_busSide ch)
  | referenceExpiry ch => exact State.keepsParams_event (s.takeReachedWatch_busSide ch)
  | leadRelease => exact exec_leadRelease_keepsParams s
  | endRelease => exact exec_endRelease_keepsParams s
  | _ => exact exec_executionRow_keepsParams s _ (by decide)

/-- Settles O7: the write and the read of a place of the buffers, the latching of a taking, the reset values, and the
frame over every other command. -/
theorem parameterBufferKeepsItsBytes : Obligations.ParameterBufferKeepsItsBytes := by
  refine ⟨fun k v s hreleased => ?write, fun k s hreleased => ?read, fun code s t hreleased hidle htaken => ?latch,
    fun s t hreset k => ?reset, fun c s t hreset hwrite hexec => exec_keepsParams c s hreset hwrite t hexec⟩
  case write => rw [exec_registerWrite_of_released _ v hreleased, s.writeWindow_buffer]; rfl
  case read => rw [s.readWindow_of_released _ hreleased, s.location_buffer]
  case latch =>
    rw [exec_taking_of_released code hreleased, State.writeCmd_of_idle code hidle] at htaken
    cases htaken
    exact ⟨rfl, rfl⟩
  case reset =>
    cases hreset
    exact Vector.getElem_replicate k.isLt

end Sys2Proof.Machine
end

section
/-! The operations over many slots, slot by slot (Sections 5.4, 6.7 and 9.3): what a launch, the placement of an open list, a
retiring and a QUIESCE make of one slot, and the entries that the first two put into the calendar. -/

namespace Sys2Proof.Machine

/-! ### What each operation makes of a slot's record -/

/-- A slot that a launch with trigger time `trigger` finds (R129). -/
def Slot.launched (trigger : Tick) : Slot → Slot
  | .parked h => .scheduled h.reloaded (trigger + h.action.timeValue)
  | x => x

/-- A slot that the placement of an open list finds (R97). -/
def Slot.placed (now : Tick) : Slot → Slot
  | .opened h => h.placedAt now
  | x => x

/-- A slot that the retiring of the placed generation of `g` finds (R95). -/
def Slot.retired (now : Tick) (g : GroupNo) : Slot → Slot
  | .scheduled h due => if h.action.group = some g then .complete h .superseded now else .scheduled h due
  | .parked h => if h.action.group = some g then .complete h .superseded now else .parked h
  | .active h leadDue leadTime leadPast =>
    if h.action.group = some g then .active { h with supersedePending := true } leadDue leadTime leadPast
    else .active h leadDue leadTime leadPast
  | x => x

/-- A slot that a QUIESCE finds (R20). -/
def Slot.quiesced (now : Tick) : Slot → Slot
  | .opened _ => .free
  | .scheduled h _ => .complete h .quiesced now
  | .parked h => .complete h .quiesced now
  | .active h _ _ _ => .complete h .quiesced now
  | x => x

theorem Slot.launched_idem (trigger : Tick) (x : Slot) : (x.launched trigger).launched trigger = x.launched trigger := by
  cases x <;> rfl

theorem Slot.placed_idem (now : Tick) (x : Slot) : (x.placed now).placed now = x.placed now := by
  cases x with
  | opened h =>
    show (h.placedAt now).placed now = h.placedAt now
    unfold Held.placedAt
    cases h.action.mode <;> rfl
  | _ => rfl

theorem Slot.retired_idem (now : Tick) (g : GroupNo) (x : Slot) : (x.retired now g).retired now g = x.retired now g := by
  cases x with
  | scheduled h due => by_cases hg : h.action.group = some g <;> simp [Slot.retired, hg]
  | parked h => by_cases hg : h.action.group = some g <;> simp [Slot.retired, hg]
  | active h a b p => by_cases hg : h.action.group = some g <;> simp [Slot.retired, hg]
  | _ => rfl

theorem Slot.quiesced_idem (now : Tick) (x : Slot) : (x.quiesced now).quiesced now = x.quiesced now := by
  cases x <;> rfl

/-- An operation that at each slot of a list rewrites that slot's record alone does so to the slots of the list. -/
theorem slot_foldl (f : State → SlotNo → State) (rewrite : Slot → Slot) (now : Tick)
    (hslot : ∀ s n m, s.now = now → (f s n).slot m = if m = n then rewrite (s.slot m) else s.slot m)
    (hnow : ∀ s n, (f s n).now = s.now) (hidem : ∀ x, rewrite (rewrite x) = rewrite x)
    (l : List SlotNo) (s : State) (hs : s.now = now) (m : SlotNo) :
    (l.foldl f s).slot m = if m ∈ l then rewrite (s.slot m) else s.slot m := by
  induction l generalizing s with
  | nil => simp
  | cons n rest ih =>
    rw [List.foldl_cons, ih (f s n) ((hnow s n).trans hs), hslot s n m hs]
    by_cases hm : m = n <;> by_cases hrest : m ∈ rest <;> simp [hm, hrest, hidem]

/-! ### A launch (R129) -/

theorem State.slot_launchSlot (trigger : Tick) (s : State) (n m : SlotNo) :
    (State.launchSlot trigger s n).slot m = if m = n then (s.slot m).launched trigger else s.slot m := by
  rcases s.launchSlot_cases trigger n with ⟨h, hslot, e⟩ | ⟨hother, e⟩ <;> rw [e]
  · by_cases hm : m = n <;> simp [State.slot_scheduleLead, hm, hslot, Slot.launched]
  · by_cases hm : m = n
    · subst hm
      cases hs : s.slot m with
      | parked h => exact absurd hs (hother h)
      | _ => simp [Slot.launched]
    · simp [hm]

theorem State.launchSlot_now (trigger : Tick) (s : State) (n : SlotNo) : (State.launchSlot trigger s n).now = s.now := by
  rcases s.launchSlot_cases trigger n with ⟨h, -, e⟩ | ⟨-, e⟩ <;> rw [e]
  rfl

theorem State.slot_launch (s : State) (ch : ChanNo) (trigger : Tick) (m : SlotNo) :
    (s.launch ch trigger).slot m
      = if m ∈ (s.channel ch).parked then (s.slot m).launched trigger else s.slot m :=
  slot_foldl (State.launchSlot trigger) (Slot.launched trigger) s.now
    (fun t n m _ => t.slot_launchSlot trigger n m) (fun t n => t.launchSlot_now trigger n) (Slot.launched_idem trigger)
    (s.channel ch).parked (s.setChannel ch { s.channel ch with parked := [] }) rfl m

theorem State.launch_channels (s : State) (ch : ChanNo) (trigger : Tick) :
    (s.launch ch trigger).channels = (s.setChannel ch { s.channel ch with parked := [] }).channels := by
  refine foldl_keeps _ State.channels (fun t n => ?_) _ _
  rcases t.launchSlot_cases trigger n with ⟨h, -, e⟩ | ⟨-, e⟩ <;> rw [e]
  rfl

/-! ### The placement of an open list (R97) -/

/-- The slot after its placement. -/
theorem State.slot_place (s : State) (n m : SlotNo) (h : Held) :
    (s.place n h).slot m = if m = n then h.placedAt s.now else s.slot m := by
  rcases s.place_cases n h with ⟨hmode, e⟩ | ⟨hmode, e⟩ | ⟨hmode, e⟩ <;> rw [e]
  · rw [State.slot_scheduleLead, Held.placedAt, hmode]; rfl
  · rw [State.slot_scheduleLead, Held.placedAt, hmode]; rfl
  · rw [State.park_eq, Held.placedAt, hmode]
    exact s.slot_setSlot n m _

theorem State.place_now (s : State) (n : SlotNo) (h : Held) : (s.place n h).now = s.now :=
  congrArg (fun fields => fields.1.value) (s.place_untouched n h)

theorem State.slot_placeMember (s : State) (n m : SlotNo) :
    (s.placeMember n).slot m = if m = n then (s.slot m).placed s.now else s.slot m := by
  rcases s.placeMember_cases n with ⟨h, hslot, e⟩ | ⟨hother, e⟩ <;> rw [e]
  · rw [State.slot_place]
    by_cases hm : m = n <;> simp [hm, hslot, Slot.placed]
  · by_cases hm : m = n
    · subst hm
      cases hs : s.slot m with
      | opened h => exact absurd hs (hother h)
      | _ => simp [Slot.placed]
    · simp [hm]

theorem State.placeMember_now (s : State) (n : SlotNo) : (s.placeMember n).now = s.now := by
  rcases s.placeMember_cases n with ⟨h, -, e⟩ | ⟨-, e⟩ <;> rw [e]
  exact s.place_now n h

theorem State.slot_placeMembers (s : State) (l : List SlotNo) (m : SlotNo) :
    (l.foldl State.placeMember s).slot m = if m ∈ l then (s.slot m).placed s.now else s.slot m :=
  slot_foldl State.placeMember (Slot.placed s.now) s.now (fun t n m ht => ht ▸ t.slot_placeMember n m)
    State.placeMember_now (Slot.placed_idem s.now) l s rfl m

/-! ### A retiring (R95) -/

theorem State.slot_unpark (s : State) (n m : SlotNo) (h : Held) : (s.unpark n h).slot m = s.slot m := by
  rw [State.unpark_eq]
  rfl

theorem State.unpark_now (s : State) (n : SlotNo) (h : Held) : (s.unpark n h).now = s.now := by
  rw [State.unpark_eq]
  rfl

theorem State.slot_retireSlot (g : GroupNo) (s : State) (n m : SlotNo) :
    (State.retireSlot g s n).slot m = if m = n then (s.slot m).retired s.now g else s.slot m := by
  rcases s.retireSlot_cases g n with ⟨h, due, hslot, hg, e⟩ | ⟨h, hslot, hg, e⟩ | ⟨h, a, b, p, hslot, hg, e⟩ |
      ⟨e, hout⟩ <;>
    rw [e]
  · rw [State.slot_complete]
    by_cases hm : m = n <;> simp [hm, hslot, Slot.retired, hg]
  · rw [State.slot_complete, State.slot_unpark, State.unpark_now]
    by_cases hm : m = n <;> simp [hm, hslot, Slot.retired, hg]
  · rw [State.slot_setSlot]
    by_cases hm : m = n <;> simp [hm, hslot, Slot.retired, hg]
  · by_cases hm : m = n
    · subst hm
      cases hs : s.slot m <;> simp_all [Slot.retired, Slot.inPlacedGeneration, Slot.isLive, Slot.held?]
    · simp [hm]

theorem State.retireSlot_now (g : GroupNo) (s : State) (n : SlotNo) : (State.retireSlot g s n).now = s.now := by
  rcases s.retireSlot_cases g n with ⟨h, d, -, -, e⟩ | ⟨h, -, -, e⟩ | ⟨h, a, b, p, -, -, e⟩ | ⟨e, -⟩ <;> rw [e]
  · rfl
  · exact s.unpark_now n h
  · rfl

theorem mem_slotNumbers (n : SlotNo) : n ∈ slotNumbers := List.mem_finRange n

theorem slotNumbers_nodup : slotNumbers.Nodup := List.nodup_finRange 64

theorem State.slot_retire (s : State) (g : GroupNo) (m : SlotNo) :
    (s.retire g).slot m = (s.slot m).retired s.now g := by
  have h := slot_foldl (State.retireSlot g) (Slot.retired s.now g) s.now (fun t n m ht => ht ▸ t.slot_retireSlot g n m)
    (fun t n => t.retireSlot_now g n) (Slot.retired_idem s.now g) slotNumbers s rfl m
  rwa [if_pos (mem_slotNumbers m)] at h

/-! ### A QUIESCE (R20, R178) -/

theorem State.cut_eq (s : State) (n : SlotNo) (h : Held) :
    s.cut n h = (s.setCalendar (s.calendar.filter (fun e => e.slot != n))).releaseClaims h := rfl

theorem State.slot_releaseClaims (s : State) (h : Held) (m : SlotNo) : (s.releaseClaims h).slot m = s.slot m := by
  rw [State.releaseClaims_eq]
  rfl

theorem State.releaseClaims_now (s : State) (h : Held) : (s.releaseClaims h).now = s.now := by
  rw [State.releaseClaims_eq]
  rfl

theorem State.slot_quiesceSlot (s : State) (n m : SlotNo) :
    (s.quiesceSlot n).slot m = if m = n then (s.slot m).quiesced s.now else s.slot m := by
  have kept (hsame : (s.slot n).quiesced s.now = s.slot n) :
      s.slot m = if m = n then (s.slot m).quiesced s.now else s.slot m := by
    by_cases hm : m = n <;> simp [hm, hsame]
  unfold State.quiesceSlot
  cases hs : s.slot n with
  | free | complete _ _ _ => exact kept (by rw [hs]; rfl)
  | opened h => simp only [State.slot_setSlot]; by_cases hm : m = n <;> simp [hm, hs, Slot.quiesced]
  | scheduled h due => simp only [State.slot_complete]; by_cases hm : m = n <;> simp [hm, hs, Slot.quiesced]
  | parked h =>
    simp only [State.slot_complete, State.slot_unpark, State.unpark_now]
    by_cases hm : m = n <;> simp [hm, hs, Slot.quiesced]
  | active h a b p =>
    simp only [State.slot_complete, State.cut_eq, State.slot_releaseClaims, State.releaseClaims_now]
    by_cases hm : m = n <;> simp [hm, hs, Slot.quiesced]

theorem State.quiesceSlot_now (s : State) (n : SlotNo) : (s.quiesceSlot n).now = s.now := by
  unfold State.quiesceSlot
  cases s.slot n with
  | parked h => exact s.unpark_now n h
  | active h a b p => exact State.releaseClaims_now _ h
  | _ => rfl

theorem State.slot_quiesceSlots (s : State) (m : SlotNo) :
    (slotNumbers.foldl State.quiesceSlot s).slot m = (s.slot m).quiesced s.now := by
  rw [slot_foldl State.quiesceSlot (Slot.quiesced s.now) s.now (fun t n m ht => ht ▸ t.slot_quiesceSlot n m)
    State.quiesceSlot_now (Slot.quiesced_idem s.now) slotNumbers s rfl m, if_pos (mem_slotNumbers m)]

@[simp] theorem State.idleLines_now (s : State) : s.idleLines.now = s.now := by simp only [State.now, State.idleLines]

@[simp] theorem State.idleLines_calendar (s : State) : s.idleLines.calendar = s.calendar := by
  simp only [State.idleLines]

@[simp] theorem State.idleLines_doneQueue (s : State) : s.idleLines.doneQueue = s.doneQueue := by
  simp only [State.idleLines]

@[simp] theorem State.idleLines_channel (s : State) (c : ChanNo) : s.idleLines.channel c = s.channel c := by
  simp only [State.channel, State.idleLines]

@[simp] theorem State.idleLines_group (s : State) (g : GroupNo) : s.idleLines.group g = s.group g := by
  simp only [State.group, State.idleLines]

theorem State.line_idleLines (s : State) (l : LineNo) : s.idleLines.line l = { s.line l with isActive := false } := by
  simp [State.line, State.idleLines, Vector.get_eq_getElem]

@[simp] theorem State.idleLines_slot (s : State) (m : SlotNo) : s.idleLines.slot m = s.slot m := by
  simp only [State.slot, State.idleLines]

@[simp] theorem State.emptyGroups_slot (s : State) (m : SlotNo) : s.emptyGroups.slot m = s.slot m := by
  simp only [State.slot, State.emptyGroups]

@[simp] theorem State.emptyGroups_calendar (s : State) : s.emptyGroups.calendar = s.calendar := by
  simp only [State.emptyGroups]

@[simp] theorem State.emptyGroups_doneQueue (s : State) : s.emptyGroups.doneQueue = s.doneQueue := by
  simp only [State.emptyGroups]

@[simp] theorem State.emptyGroups_line (s : State) (l : LineNo) : s.emptyGroups.line l = s.line l := by
  simp only [State.line, State.emptyGroups]

@[simp] theorem State.emptyGroups_channel (s : State) (c : ChanNo) : s.emptyGroups.channel c = s.channel c := by
  simp only [State.channel, State.emptyGroups]

theorem State.group_emptyGroups (s : State) (g : GroupNo) : s.emptyGroups.group g = (s.group g).emptied := by
  simp [State.group, State.emptyGroups, Vector.get_eq_getElem]

@[simp] theorem State.emptyGroups_now (s : State) : s.emptyGroups.now = s.now := by
  simp only [State.now, State.emptyGroups]

theorem State.slot_quiesced (s : State) (m : SlotNo) : s.quiesced.slot m = (s.slot m).quiesced s.now := by
  rw [State.quiesced, State.clearMeasurements_slot, State.idleLines_slot, State.slot_quiesceSlots, State.emptyGroups_slot,
    State.emptyGroups_now]

/-! ### The commit of a group without REPLACE (R94) -/

/-- The placement of a slot reads and writes no group. -/
theorem State.place_setGroup (s : State) (g : GroupNo) (x : Group) (n : SlotNo) (h : Held) :
    (s.setGroup g x).place n h = (s.place n h).setGroup g x := by
  unfold State.place State.park
  cases h.action.mode with
  | trig => cases hc : h.reloaded.action.channel <;> rfl
  | _ => rfl

theorem State.placeMembers_setGroup (s : State) (g : GroupNo) (x : Group) (l : List SlotNo) :
    l.foldl State.placeMember (s.setGroup g x) = (l.foldl State.placeMember s).setGroup g x := by
  induction l generalizing s with
  | nil => rfl
  | cons n rest ih =>
    have hhead : (s.setGroup g x).placeMember n = (s.placeMember n).setGroup g x := by
      unfold State.placeMember
      rw [State.setGroup_slot]
      cases s.slot n with
      | opened h => exact s.place_setGroup g x n h
      | _ => rfl
    rw [List.foldl_cons, List.foldl_cons, hhead, ih]

/-- The placement of the open list and the record at the end of the commit: what a commit does after any retiring (R97,
R98). -/
def State.commitMembers (s : State) (g : GroupNo) (cause : CommitCause) : State :=
  ((s.group g).openList.foldl State.placeMember s).closeCommit g cause

theorem State.closeCommit_eq_of_state (s : State) (g : GroupNo) (state : GroupState) (cause : CommitCause) :
    (s.setGroup g { s.group g with state := state }).closeCommit g cause = s.closeCommit g cause := by
  unfold State.closeCommit
  rw [State.group_setGroup_self]
  unfold State.setGroup
  simp only [Vector.set_set]

/-- A retiring reads and writes no group. -/
theorem State.retire_setGroup (s : State) (g k : GroupNo) (x : Group) :
    (s.setGroup k x).retire g = (s.retire g).setGroup k x := by
  unfold State.retire
  generalize slotNumbers = l
  induction l generalizing s with
  | nil => rfl
  | cons n rest ih =>
    have hhead : State.retireSlot g (s.setGroup k x) n = (State.retireSlot g s n).setGroup k x := by
      unfold State.retireSlot
      rw [State.setGroup_slot]
      cases s.slot n with
      | parked h =>
        simp only
        split
        · cases hc : h.action.channel <;> simp only [State.unpark, hc] <;> rfl
        · rfl
      | scheduled h due => simp only; split <;> rfl
      | active h a b p => simp only; split <;> rfl
      | _ => rfl
    rw [List.foldl_cons, List.foldl_cons, hhead, ih]

theorem State.group_of_groups_eq {s t : State} (h : t.groups = s.groups) (g : GroupNo) : t.group g = s.group g := by
  simp [State.group, h]

/-- A commit is its retiring, if it has one, and then the placement of its members. -/
theorem State.commitGroup_eq (s : State) (g : GroupNo) (replace : Bool) (cause : CommitCause) :
    s.commitGroup g replace cause = (if replace then s.retire g else s).commitMembers g cause := by
  have hplaced (t : State) (ht : t.groups = s.groups) :
      ((s.group g).openList.foldl State.placeMember (t.setGroup g { s.group g with state := .empty })).closeCommit g cause
        = t.commitMembers g cause := by
    have hgroup : t.group g = s.group g := State.group_of_groups_eq ht g
    have hclosed := State.closeCommit_eq_of_state ((s.group g).openList.foldl State.placeMember t) g .empty cause
    rw [State.group_of_groups_eq (t.placeMembers_untouched _).2.1, hgroup] at hclosed
    rw [State.placeMembers_setGroup, State.commitMembers, hgroup]
    exact hclosed
  unfold State.commitGroup State.stopPending
  cases replace with
  | false => exact hplaced s rfl
  | true =>
    simp only [if_true]
    rw [State.retire_setGroup]
    exact hplaced _ (s.retire_untouched g).2

end Sys2Proof.Machine
end

section
/-! What a step can do (Chapters 1 to 9): the changes of which every command and event is composed. Each law of the part is
then a statement on each change, and holds over every step by `step_keeps`. -/

namespace Sys2Proof.Machine

/-! ### The changes -/

/-- `t` has the slots, collections, claims, measurements and counts of `s`. -/
structure State.SameWork (s t : State) : Prop where
  tb : t.tb = s.tb
  slots : t.slots = s.slots
  calendar : t.calendar = s.calendar
  lines : t.lines = s.lines
  channels : t.channels = s.channels
  groups : ∀ g, (t.group g).state = (s.group g).state ∧ (t.group g).openList = (s.group g).openList
  doneQueue : t.doneQueue = s.doneQueue
  log : t.log = s.log
  logThreshold : t.logThreshold = s.logThreshold

/-- The law of measurement state for one channel (R114, R115, R121, R122). -/
def Channel.Measured (x : Channel) : Prop :=
  (x.reference ≠ none → x.mode = .period ∨ x.mode = .width) ∧
  (x.watch ≠ none → x.sense = .longer ∧ x.limit ≠ 0 ∧ x.watch = x.reference.map (· + x.limit)) ∧
  (x.violationMark = true → x.reference ≠ none ∧ x.watch = none)

/-- Where `past` is not 0, the due time lies that many ticks beyond -2^31 behind `now` (R52; log 10). -/
def PastTrue (now due : Tick) (past : Nat) : Prop := past ≠ 0 → now - due = BitVec.ofNat 32 (2147483648 + past)

/-- The calendar without the entry of slot `n`: the entry withdrawn, or released from the head (R42, R46). -/
inductive State.WithoutEntry (s : State) (n : SlotNo) : List Entry → Prop where
  | withdrawn : s.WithoutEntry n (s.calendar.filter (fun e => e.slot != n))
  | released {e : Entry} {rest : List Entry} (hcalendar : s.calendar = e :: rest) (hslot : e.slot = n) :
    s.WithoutEntry n rest

/-- Slot `n`, which holds `h`, leaves the collection and the claims of its state; its record is still to be written. -/
inductive State.Leaves (s : State) (n : SlotNo) (h : Held) : State → Prop where
  | scheduled {due : Tick} {calendar : List Entry} (hslot : s.slot n = .scheduled h due)
    (hcalendar : s.WithoutEntry n calendar) : s.Leaves n h (s.setCalendar calendar)
  | parked (hslot : s.slot n = .parked h) : s.Leaves n h (s.unpark n h)
  | active {leadDue leadTime : Tick} {leadPast : Nat} {calendar : List Entry}
    (hslot : s.slot n = .active h leadDue leadTime leadPast) (hcalendar : s.WithoutEntry n calendar) :
    s.Leaves n h ((s.setCalendar calendar).releaseClaims h)

/-- Slot `n` becomes COMPLETE, SCHEDULED or PARKED with `h`. The count of ticks beyond -2^31 of a new entry is true where
`lawful` holds. -/
inductive State.Enters (lawful : Prop) (s : State) (n : SlotNo) (h : Held) : State → Prop where
  | complete (status : Status) : s.Enters lawful n h (s.complete n h status)
  | scheduled {due : Tick} {past : Nat} (hleft : h.action.count = 0 ∨ h.remaining ≠ 0)
    (hpast : lawful → PastTrue s.now due past) :
    s.Enters lawful n h ((s.setSlot n (.scheduled h due)).insertPast n .lead due past)
  | parked (hloaded : h.remaining = h.action.count) : s.Enters lawful n h (s.park n h)

/-- One change of the part. -/
inductive State.Change (s : State) : State → Prop where
  | quiet {t : State} (same : s.SameWork t) : s.Change t
  | log {l : List Capture} (hlength : s.log.length ≤ 32 → l.length ≤ 32) : s.Change (s.setLog l)
  | threshold {k : Nat} (hk : k ≤ 32) : s.Change { s with logThreshold := k }
  | time {x : Timebase} (hvalue : x.value = s.tb.value ∨ s.calendar = [])
    (hrange : s.TimebaseInRange → (s.setTimebase x).TimebaseInRange) : s.Change (s.setTimebase x)
  | tick : s.Change s.advanceTime
  | line {l : LineNo} {x : Line} (hclaim : s.ClaimsHold → (s.line l).claim = none ∧ x.claim = none) :
    s.Change (s.setLine l x)
  | channel {c : ChanNo} {x : Channel} (hparked : x.parked = (s.channel c).parked)
    (hack : s.AckClaimsHold → x.ackClaim = (s.channel c).ackClaim ∧ (x.ackClaim ≠ none → x.mode = (s.channel c).mode))
    (hmeasured : (s.channel c).Measured → x.Measured) : s.Change (s.setChannel c x)
  | clearMeasurements : s.Change s.clearMeasurements
  | openInto {a : Action} {n : SlotNo} {g : GroupNo} (hfree : s.slot n = .free) (hformed : a.wellFormed = true)
    (hgroup : a.group = some g) (hstate : ∀ anchor replace, (s.group g).state ≠ .pending anchor replace) :
    s.Change (s.openInto n a.posted g)
  | placePosted {a : Action} {n : SlotNo} (hfree : s.slot n = .free) (hformed : a.wellFormed = true) :
    s.Change (s.place n a.posted)
  | cancelOpen {n : SlotNo} {h : Held} (hslot : s.slot n = .opened h) : s.Change (s.cancelOpen n h)
  | move {n : SlotNo} {old new : Held} {u t : State} (leaves : s.Leaves n old u)
    (enters : u.Enters (s.CalendarHolds ∧ s.PastFloorsHold) n new t) (haction : new.action = old.action)
    (hremaining : (s.slot n).remainingFits = true → new.remaining.toNat ≤ new.action.count.toNat) : s.Change t
  | fire {e : Entry} {rest : List Entry} {old new : Held} {due : Tick} (hcalendar : s.calendar = e :: rest)
    (hslot : s.slot e.slot = .scheduled old due) (haction : new.action = old.action)
    (hremaining : (s.slot e.slot).remainingFits = true → new.remaining.toNat ≤ new.action.count.toNat)
    (hline : ∀ l, new.action.line = some l → (s.line l).claim = none)
    (hchannel : new.action.kind = .strobe → ∀ c, new.action.channel = some c →
      (s.channel c).mode = .ack ∧ (s.channel c).ackClaim = none) :
    s.Change ((s.setCalendar rest).beginFiring e new)
  | mark {n : SlotNo} {h : Held} {leadDue leadTime : Tick} {leadPast : Nat}
    (hslot : s.slot n = .active h leadDue leadTime leadPast) :
    s.Change (s.setSlot n (.active { h with supersedePending := true } leadDue leadTime leadPast))
  | commitMembers (g : GroupNo) (cause : CommitCause) : s.Change (s.commitMembers g cause)
  | pend (g : GroupNo) (anchor : SlotNo) (replace : Bool) :
    s.Change (s.setGroup g { s.group g with state := .pending anchor replace })
  | discard (g : GroupNo) :
    s.Change (((s.group g).openList.foldl State.freeOpen s).setGroup g (s.group g).emptied)
  | launch (ch : ChanNo) (trigger : Tick) : s.Change (s.launch ch trigger)
  | popDone {n : SlotNo} {rest : List SlotNo} (hqueue : s.doneQueue = n :: rest) : s.Change (s.popDone n rest)
  | dropHead {e : Entry} {rest : List Entry} (hcalendar : s.calendar = e :: rest)
    (hentries : ∀ x ∈ (s.slot e.slot).entries, x.1 ≠ e.phase) : s.Change (s.setCalendar rest)
  | quiesce : s.Change s.quiesced
  | reset : s.Change State.reset

/-- Changes one after the other. -/
abbrev State.Changes : State → State → Prop := Relation.ReflTransGen State.Change

theorem State.Change.one {s t : State} (h : s.Change t) : s.Changes t := Relation.ReflTransGen.single h

/-- A write to anything that the laws do not read. -/
theorem State.SameWork.changes {s t : State} (h : s.SameWork t) : s.Changes t := (State.Change.one (.quiet h))

/-- The fields that the laws do not read. -/
theorem State.sameWork_bus (s : State) (limit : Half) (pins : Vector Bool 8) (resetPin : ResetPin) (enables : BitVec 5)
    (cmd : Bool) (cu : CommandUnit) (busData : Byte) (pending : List Instr) :
    s.SameWork
      { s with
        latenessLimit := limit, pins := pins, resetPin := resetPin, causeEnables := enables, cmdCause := cmd, cu := cu,
        busData := busData, pending := pending } :=
  ⟨rfl, rfl, rfl, rfl, rfl, fun _ => ⟨rfl, rfl⟩, rfl, rfl, rfl⟩

/-- What every change keeps, changes one after the other keep. -/
theorem State.Changes.keeps {P : State → Prop} (hkeep : ∀ s t : State, s.Change t → P s → P t) {s t : State}
    (h : s.Changes t) (hs : P s) : P t := by
  induction h with
  | refl => exact hs
  | tail _ hchange ih => exact hkeep _ _ hchange ih

theorem State.changes_ite {s t u : State} (p : Prop) [Decidable p] (ht : p → s.Changes t) (hu : s.Changes u) :
    s.Changes (if p then t else u) := by
  split
  · exact ht ‹_›
  · exact hu

/-- A fold whose steps are changes is changes. -/
theorem State.changes_foldl {α : Type} (f : State → α → State) (hf : ∀ (s : State) (a : α), s.Changes (f s a)) (l : List α) (s : State) :
    s.Changes (l.foldl f s) :=
  foldl_invariant f (fun t => s.Changes t) (fun t a ht => ht.trans (hf t a)) l s .refl

/-! ### Records appended to the log -/

/-- The state with another log that keeps the bound on its length (R151). -/
def State.Logged (s t : State) : Prop := ∃ l : List Capture, t = s.setLog l ∧ (s.log.length ≤ 32 → l.length ≤ 32)

theorem State.Logged.changes {s t : State} (h : s.Logged t) : s.Changes t := by
  obtain ⟨l, rfl, hlength⟩ := h
  exact (State.Change.one (.log hlength))

theorem State.logged_self (s : State) : s.Logged s := ⟨s.log, rfl, id⟩

theorem State.logged_appendCapture (s : State) (c : Capture) : s.Logged (s.appendCapture c) := by
  have hlog := s.appendCapture_log_le c
  rw [State.appendCapture_eq] at hlog ⊢
  exact ⟨_, rfl, hlog⟩

theorem State.logged_ite {s t u : State} (p : Prop) [Decidable p] (ht : s.Logged t) (hu : s.Logged u) :
    s.Logged (if p then t else u) := by
  split
  · exact ht
  · exact hu

theorem State.logged_logChannel (s : State) (ch : ChanNo) (record : Capture) : s.Logged (s.logChannel ch record) :=
  State.logged_ite _ (s.logged_appendCapture record) s.logged_self

theorem State.logged_logMiss (s : State) (n : SlotNo) (h : Held) (reason : Status) : s.Logged (s.logMiss n h reason) :=
  State.logged_ite _ (s.logged_appendCapture _) s.logged_self

theorem State.logged_logFired (s : State) (n : SlotNo) (h : Held) (lateness : Nat) :
    s.Logged (s.logFired n h lateness) :=
  State.logged_ite _ (s.logged_appendCapture _) s.logged_self

theorem State.appendCapture_setCalendar (s : State) (c : Capture) (calendar : List Entry) :
    (s.setCalendar calendar).appendCapture c = (s.appendCapture c).setCalendar calendar := by
  rw [State.appendCapture_eq, State.appendCapture_eq]
  rfl

theorem State.logMiss_setCalendar (s : State) (n : SlotNo) (h : Held) (reason : Status) (calendar : List Entry) :
    (s.setCalendar calendar).logMiss n h reason = (s.logMiss n h reason).setCalendar calendar := by
  unfold State.logMiss
  split
  · exact s.appendCapture_setCalendar _ calendar
  · rfl

theorem State.logFired_setCalendar (s : State) (n : SlotNo) (h : Held) (lateness : Nat) (calendar : List Entry) :
    (s.setCalendar calendar).logFired n h lateness = (s.logFired n h lateness).setCalendar calendar := by
  unfold State.logFired
  split
  · exact s.appendCapture_setCalendar _ calendar
  · rfl

/-! ### Slots that end, and their continuation (R12, R70 to R73) -/

theorem State.Leaves.held {s u : State} {n : SlotNo} {h : Held} (leaves : s.Leaves n h u) :
    (s.slot n).held? = some h := by
  cases leaves with
  | scheduled hslot _ => rw [hslot]; rfl
  | parked hslot => rw [hslot]; rfl
  | active hslot _ => rw [hslot]; rfl

theorem Slot.remaining_le_of_fits {x : Slot} {h : Held} (hheld : x.held? = some h) (hfits : x.remainingFits = true) :
    h.remaining.toNat ≤ h.action.count.toNat := by
  cases x <;> simp_all [Slot.held?, Slot.remainingFits]

/-- A slot that leaves its collection completes. -/
theorem State.Leaves.completes {s u : State} {n : SlotNo} {h : Held} (leaves : s.Leaves n h u) (status : Status) :
    s.Changes (u.complete n h status) :=
  (State.Change.one (.move leaves (.complete status) rfl (Slot.remaining_le_of_fits leaves.held)))

/-- The due time of a re-arm whose base lies `behind` ticks behind now (R38, R71; log 19). -/
theorem pastTrue_rearm {now base : Tick} {behind : Nat} (period : BitVec 24) (h : now - base = BitVec.ofNat 32 behind) :
    PastTrue now (base + period.zeroExtend 32) (behind - (period.toNat + 2147483648)) := by
  intro hpast
  have hsub : now - (base + period.zeroExtend 32) = BitVec.ofNat 32 behind - period.zeroExtend 32 := by
    rw [← h]
    ring
  have hperiod := period.isLt
  rw [hsub]
  apply BitVec.eq_of_toNat_eq
  simp only [BitVec.toNat_sub, BitVec.toNat_ofNat, BitVec.truncate_eq_setWidth, BitVec.toNat_setWidth]
  omega

/-- A continuation after a slot has left its collection, from a base that lies `behind` ticks behind now where the laws of
the calendar hold. -/
theorem State.Leaves.continues {s u : State} {n : SlotNo} {old : Held} (leaves : s.Leaves n old u) (new : Held)
    (haction : new.action = old.action)
    (hremaining : (s.slot n).remainingFits = true → new.remaining.toNat ≤ new.action.count.toNat)
    (base : Tick) (behind : Nat)
    (hbehind : s.CalendarHolds → s.PastFloorsHold → u.now - base = BitVec.ofNat 32 behind) :
    s.Changes (u.continuation n new base behind) := by
  rcases u.continuation_cases n new base behind with ⟨-, e⟩ | ⟨-, hagain, e⟩ | ⟨-, -, -, e⟩ | ⟨-, -, -, e⟩ <;> rw [e]
  · exact (State.Change.one (.move leaves (.complete .superseded) haction hremaining))
  · have hleft : new.action.count = 0 ∨ new.remaining ≠ 0 := by
      refine hagain.imp_right fun hpos hzero => ?_
      rw [hzero] at hpos
      exact absurd hpos (lt_irrefl 0)
    exact (State.Change.one (.move leaves
      (.scheduled hleft fun hlaws => pastTrue_rearm _ (hbehind hlaws.1 hlaws.2)) haction hremaining))
  · exact (State.Change.one (.move leaves (new := new.reloaded) (.parked rfl) haction (fun _ => Nat.le_refl _)))
  · exact (State.Change.one (.move leaves (.complete .done) haction hremaining))

/-! ### Commits -/

theorem State.changes_retireSlot (g : GroupNo) (s : State) (n : SlotNo) : s.Changes (State.retireSlot g s n) := by
  rcases s.retireSlot_cases g n with ⟨h, due, hslot, -, e⟩ | ⟨h, hslot, -, e⟩ | ⟨h, a, b, p, hslot, -, e⟩ | ⟨e, -⟩ <;>
    rw [e]
  · exact (State.Leaves.scheduled hslot .withdrawn).completes .superseded
  · exact (State.Leaves.parked hslot).completes .superseded
  · exact (State.Change.one (.mark hslot))

theorem State.changes_commitGroup (s : State) (g : GroupNo) (replace : Bool) (cause : CommitCause) :
    s.Changes (s.commitGroup g replace cause) := by
  rw [State.commitGroup_eq]
  refine .trans ?_ (State.Change.one (.commitMembers g cause))
  exact State.changes_ite _ (fun _ => State.changes_foldl _ (State.changes_retireSlot g) slotNumbers s) .refl

theorem State.changes_runCommits (rounds : Nat) (fired : List GroupNo) (s : State) :
    s.Changes (State.runCommits rounds fired s) := by
  induction rounds generalizing s with
  | zero => exact .refl
  | succ k ih =>
    unfold State.runCommits
    split
    · exact .refl
    · exact (s.changes_commitGroup _ _ _).trans (ih _)

theorem State.changes_runEndedCommits (s : State) : s.Changes s.runEndedCommits := State.changes_runCommits 7 [] s

/-! ### The carrying out of each command -/

/-- The answer is a refusal, or the state it leaves comes by changes. -/
def State.RepliesByChanges (s : State) (reply : Reply) : Prop :=
  ∀ after bytes, reply = .ok (after, bytes) → s.Changes after

theorem State.repliesByChanges_error (s : State) (code : ResultCode) : s.RepliesByChanges (.error code) :=
  fun _ _ h => nomatch h

theorem State.repliesByChanges_ok {s after : State} {bytes : List Byte} (h : s.Changes after) :
    s.RepliesByChanges (.ok (after, bytes)) := by
  intro _ _ heq
  cases heq
  exact h

/-- A check that refuses, or what comes after it. -/
theorem State.repliesByChanges_check {s : State} (failed : Prop) [Decidable failed] (code : ResultCode) {reply : Reply}
    (h : ¬ failed → s.RepliesByChanges reply) : s.RepliesByChanges (if failed then .error code else reply) := by
  split
  · exact s.repliesByChanges_error code
  · exact h ‹_›

theorem State.changes_accepted (s : State) (bytes : List Byte) : s.Changes (s.accepted bytes) :=
  (s.sameWork_bus _ _ _ _ _ _ _ _).changes

theorem State.changes_refused (s : State) (code : ResultCode) : s.Changes (s.refused code) :=
  (s.sameWork_bus _ _ _ _ _ _ _ _).changes

/-- An execution that waits for its turn, or its end. -/
theorem State.changes_finish {s : State} {reply : Reply} (h : s.RepliesByChanges reply) (waiting : Prop)
    [Decidable waiting] : s.Changes (if waiting then s.finish reply else s) := by
  refine State.changes_ite _ (fun _ => ?_) .refl
  rcases s.finish_cases reply with ⟨code, -, e⟩ | ⟨after, bytes, hok, e⟩ <;> rw [e]
  · exact s.changes_refused code
  · exact (h after bytes hok).trans (after.changes_accepted bytes)

/-! #### POST and CANCEL -/

theorem State.firstFree_eq_some {s : State} {n : SlotNo} (h : s.firstFree = some n) : s.slot n = .free := by
  unfold State.firstFree at h
  simpa using List.find?_some h

/-- What a POST that passes its checks has found. -/
theorem State.checkPost_eq_ok {s : State} {a : Action} {n : SlotNo} (h : s.checkPost = .ok (a, n)) :
    ∃ kind mode, Kind.ofCode s.postRequest.kindCode = some kind ∧ TimingMode.ofCode s.postRequest.modeCode = some mode ∧
      (s.postRequest.rearm = true → mode = .trig) ∧ (kind ≠ .note → lineOf s.postRequest.lineNumber ≠ none) ∧
      s.postRequest.badTime kind mode = false ∧ s.firstFree = some n ∧ s.groupIsPending s.postRequest.group = false ∧
      a = s.postRequest.action kind mode := by
  unfold State.checkPost at h
  simp only at h
  split at h
  · cases h
  rename_i kind hkind
  split at h
  · cases h
  rename_i mode hmode
  split at h
  · cases h
  rename_i hrearm
  split at h
  · cases h
  rename_i hline
  split at h
  · cases h
  rename_i htime
  split at h
  · cases h
  rename_i n' hfree
  split at h
  · cases h
  rename_i hpending
  cases h
  exact ⟨kind, mode, hkind, hmode, fun hr => by_contra fun hm => hrearm ⟨hr, hm⟩,
    fun hk hl => hline ⟨hk, hl⟩, Bool.eq_false_iff.mpr htime, hfree, Bool.eq_false_iff.mpr hpending, rfl⟩

/-- An action whose time value, width, count and period pass check 4 of R8 and whose line is named is well formed. -/
theorem PostRequest.action_wellFormed {p : PostRequest} {kind : Kind} {mode : TimingMode}
    (hrearm : p.rearm = true → mode = .trig) (hline : kind ≠ .note → lineOf p.lineNumber ≠ none)
    (htime : p.badTime kind mode = false) : (p.action kind mode).wellFormed = true := by
  have hlineSome : (p.action kind mode).line.isSome = (kind != .note) := by
    by_cases hk : kind = .note
    · simp [PostRequest.action, hk]
    · simp [PostRequest.action, hk, Option.isSome_iff_ne_none.mpr (hline hk)]
  have hchannel : (p.action kind mode).channel.isSome = (kind == .strobe || mode == .trig) := by
    by_cases hk : kind = .strobe <;> by_cases hm : mode = .trig <;> simp [PostRequest.action, hk, hm]
  simp only [PostRequest.badTime, Bool.or_eq_false_iff, Bool.and_eq_false_iff, bne_eq_false_iff_eq, beq_eq_false_iff_ne,
    decide_eq_false_iff_not] at htime
  obtain ⟨⟨⟨hvalue, hwidth⟩, hperiod⟩, hrelation⟩ := htime
  simp only [Action.wellFormed, hlineSome, hchannel]
  cases hkw : kind.hasWidth with
  | true =>
    rw [hkw] at hwidth hrelation
    simp only [PostRequest.action, hkw]
    simp at hwidth hrelation ⊢
    refine ⟨⟨⟨⟨hwidth, ?_⟩, ?_⟩, hperiod⟩, ?_⟩
    · cases hr : p.rearm <;> simp_all
    · exact hvalue.imp_right not_le.mp
    · exact hrelation
  | false =>
    simp only [PostRequest.action, hkw]
    simp
    refine ⟨⟨?_, ?_⟩, hperiod⟩
    · cases hr : p.rearm <;> simp_all
    · exact hvalue.imp_right (by simpa using ·)

theorem State.repliesByChanges_post (s : State) : s.RepliesByChanges s.replyPost := by
  unfold State.replyPost
  split
  · exact s.repliesByChanges_error _
  · rename_i a n hcheck
    obtain ⟨kind, mode, -, -, hrearm, hline, htime, hfree, hpending, rfl⟩ := State.checkPost_eq_ok hcheck
    have hslot := State.firstFree_eq_some hfree
    have hformed := PostRequest.action_wellFormed hrearm hline htime
    refine State.repliesByChanges_ok ?_
    unfold State.takeSlot
    cases hgroup : (s.postRequest.action kind mode).group with
    | none => exact (State.Change.one (.placePosted hslot hformed))
    | some g =>
      refine (State.Change.one (.openInto hslot hformed hgroup fun anchor replace hstate => ?_))
      have : s.groupIsPending s.postRequest.group = true :=
        (s.groupIsPending_iff _).mpr ⟨g, anchor, replace, hgroup, hstate⟩
      rw [hpending] at this
      contradiction

theorem State.repliesByChanges_cancel (s : State) : s.RepliesByChanges s.replyCancel := by
  unfold State.replyCancel
  split
  · exact s.repliesByChanges_error _
  rename_i n _
  split
  · exact s.repliesByChanges_error _
  rename_i after hcancel
  refine State.repliesByChanges_ok ?_
  unfold State.cancelSlot at hcancel
  cases hslot : s.slot n with
  | free | complete _ _ _ => rw [hslot] at hcancel; cases hcancel
  | opened h => rw [hslot] at hcancel; cases hcancel; exact (State.Change.one (.cancelOpen hslot))
  | scheduled h due =>
    rw [hslot] at hcancel
    cases hcancel
    exact ((State.Leaves.scheduled hslot .withdrawn).completes .cancelled).trans (State.changes_runEndedCommits _)
  | parked h =>
    rw [hslot] at hcancel
    cases hcancel
    exact ((State.Leaves.parked hslot).completes .cancelled).trans (State.changes_runEndedCommits _)
  | active h a b p =>
    rw [hslot] at hcancel
    cases hcancel
    exact ((State.Leaves.active hslot .withdrawn).completes .cancelled).trans (State.changes_runEndedCommits _)

/-! #### COMMIT and DISCARD -/

theorem State.repliesByChanges_commit (s : State) : s.RepliesByChanges s.replyCommit := by
  unfold State.replyCommit
  split
  · exact s.repliesByChanges_error _
  refine State.repliesByChanges_check _ _ fun _ => State.repliesByChanges_check _ _ fun _ => ?_
  split
  · exact s.repliesByChanges_error _
  refine State.repliesByChanges_check _ _ fun _ => ?_
  split
  · exact State.repliesByChanges_ok ((s.changes_commitGroup _ _ _).trans (State.changes_runEndedCommits _))
  split
  · exact s.repliesByChanges_error _
  split
  · exact State.repliesByChanges_ok (State.Change.one (.pend _ _ _))
  · exact s.repliesByChanges_error _

theorem State.repliesByChanges_discard (s : State) : s.RepliesByChanges s.replyDiscard := by
  unfold State.replyDiscard
  split
  · exact s.repliesByChanges_error _
  · exact State.repliesByChanges_ok (State.Change.one (.discard _))

/-! #### CHANNEL, LINE and FORCE -/

theorem Channel.configured_measured (x : Channel) (cfg : ChannelConfig) : (x.configured cfg).Measured := by
  simp [Channel.Measured, Channel.configured]

theorem State.repliesByChanges_channel (s : State) : s.RepliesByChanges s.replyChannel := by
  unfold State.replyChannel
  split
  · exact s.repliesByChanges_error _
  split
  · exact s.repliesByChanges_error _
  rename_i c _ _ cfg _
  refine State.repliesByChanges_check _ _ fun hclaim => State.repliesByChanges_ok (State.Change.one ?_)
  have hnone : (s.channel c).ackClaim = none := by simpa using hclaim
  exact .channel rfl (fun _ => ⟨rfl, fun h => absurd hnone h⟩) fun _ => Channel.configured_measured _ cfg

theorem State.repliesByChanges_line (s : State) : s.RepliesByChanges s.replyLine := by
  unfold State.replyLine
  split
  · exact s.repliesByChanges_error _
  split
  · exact s.repliesByChanges_error _
  rename_i l _ _ _ _
  refine State.repliesByChanges_check _ _ fun hclaim => State.repliesByChanges_ok (State.Change.one ?_)
  have hnone : (s.line l).claim = none := by simpa using hclaim
  exact .line fun _ => ⟨hnone, hnone⟩

/-- The lines' law where line `l` is claimed by slot `n`: that slot is ACTIVE on it (R59). -/
theorem State.ClaimsHold.active {s : State} (h : s.ClaimsHold) {l : LineNo} {n : SlotNo} (hclaim : (s.line l).claim = some n) :
    (s.slot n).isActiveOn l = true :=
  ((h l).1 n).mp hclaim

theorem State.changes_breakFiring (s : State) (l : LineNo) (n : SlotNo) (hclaim : (s.line l).claim = some n) :
    s.Changes (s.breakFiring l n) ∧
      ((s.breakFiring l n).ClaimsHold → ((s.breakFiring l n).line l).claim = none) := by
  unfold State.breakFiring
  cases hslot : s.slot n with
  | active h a b p =>
    refine ⟨(State.Leaves.active hslot .withdrawn).completes .broken, fun hclaims => ?_⟩
    simp only at hclaims ⊢
    have hline : ((s.cut n h).complete n h .broken).line l
        = if h.action.line = some l then { s.line l with isActive := false, claim := none } else s.line l :=
      State.releaseClaims_line _ h l
    by_cases hl : h.action.line = some l
    · rw [hline, if_pos hl]
    · have hactive := hclaims.active (n := n) (by rw [hline, if_neg hl]; exact hclaim)
      rw [State.slot_complete, if_pos rfl] at hactive
      exact absurd hactive Bool.false_ne_true
  | _ =>
    refine ⟨(State.Change.one (.line fun hclaims => ?_)), fun _ => by simp⟩
    have hactive := hclaims.active hclaim
    rw [hslot] at hactive
    exact absurd hactive Bool.false_ne_true

theorem State.repliesByChanges_force (s : State) : s.RepliesByChanges s.replyForce := by
  unfold State.replyForce
  split
  · exact s.repliesByChanges_error _
  split
  · exact s.repliesByChanges_error _
  simp only
  split
  · rename_i hclaim
    exact State.repliesByChanges_ok (State.Change.one (.line fun _ => ⟨hclaim, hclaim⟩))
  · rename_i n hclaim
    refine State.repliesByChanges_check _ _ fun _ => State.repliesByChanges_ok (.trans ?_ (State.changes_runEndedCommits _))
    obtain ⟨hbreaks, hnone⟩ := s.changes_breakFiring _ n hclaim
    exact hbreaks.trans (State.Change.one (.line fun hclaims => ⟨hnone hclaims, hnone hclaims⟩))

/-! #### TIMEBASE, LATENESS, FLUSH, QUIESCE and INSPECT -/

/-- The checks that a TIMEBASE has passed when its operation is carried out (R29). -/
theorem State.timebaseRefusal_eq_none_iff (s : State) :
    s.timebaseRefusal = none ↔
      (s.param 0).toNat ≤ opSource ∧ ¬ ((s.param 0).toNat = opSource ∧ TimeSource.ofCode (s.param 5) = none) ∧
      ¬ (((s.param 0).toNat = opStart ∧ s.tb.state = .running) ∨ ((s.param 0).toNat = opStop ∧ s.tb.state = .stopped)
        ∨ (((s.param 0).toNat = opLoad ∨ (s.param 0).toNat = opSource) ∧ s.tb.state = .running)) ∧
      ¬ ((s.param 0).toNat = opLoad ∧ s.calendar ≠ []) := by
  simp only [State.timebaseRefusal]
  split_ifs <;> simp_all

theorem State.changes_timebase (s : State) (own : Nat) (operate : State → State)
    (h : (s.param 0).toNat = own → s.timebaseRefusal = none → s.Changes (operate s)) :
    s.Changes (if s.latchedAs codeTimebase own opSource then s.finish (s.replyTimebase operate) else s) := by
  by_cases hlatched : s.latchedAs codeTimebase own opSource
  · refine State.changes_finish ?_ _
    unfold State.replyTimebase
    split
    · exact s.repliesByChanges_error _
    · rename_i hpassed
      refine State.repliesByChanges_ok (h ?_ hpassed)
      obtain ⟨hop, -⟩ := s.timebaseRefusal_eq_none_iff.mp hpassed
      exact hlatched.2.resolve_right (not_lt.mpr hop)
  · rw [if_neg hlatched]

theorem State.changes_startTime (s : State) : s.Changes s.startTime := by
  refine (State.Change.one (.time (.inl rfl) fun ⟨hlow, hhigh, _, _⟩ => ⟨hlow, hhigh, fun _ => hlow, fun h => ?_⟩))
  cases h

theorem State.changes_stopTime (s : State) : s.Changes s.stopTime := by
  have hstopped : s.Changes (s.setTimebase { s.tb with state := .stopped, advanceDue := false }) := by
    refine State.Change.one (.time (.inl rfl) fun ⟨hlow, hhigh, _, _⟩ => ⟨hlow, hhigh, fun h => ?_, fun _ => rfl⟩)
    cases h
  exact hstopped.trans (State.Change.one .clearMeasurements)

theorem State.changes_loadTime (s : State) (value : Tick) (hempty : s.calendar = []) : s.Changes (s.loadTime value) := by
  have hloaded : s.Changes (s.setTimebase { s.tb with value := value }) := State.Change.one (.time (.inr hempty) id)
  exact hloaded.trans (State.Change.one .clearMeasurements)

theorem State.changes_applySource (s : State) (hstopped : s.tb.state ≠ .running) : s.Changes s.applySource := by
  unfold State.applySource
  split
  · exact .refl
  · refine (State.Change.one (.time (.inl rfl) fun ⟨_, _, _, hdue⟩ => ⟨Nat.le_add_left 1 _, ?_, fun h => absurd h hstopped, hdue⟩))
    have := (s.param 6).isLt
    simp only [State.setTimebase_tb]
    omega

theorem State.repliesByChanges_inspect (s : State) (view : Except ResultCode (List Byte)) :
    s.RepliesByChanges (s.replyInspect view) := by
  refine State.repliesByChanges_check _ _ fun _ => ?_
  split
  · exact s.repliesByChanges_error _
  · exact State.repliesByChanges_ok .refl

/-! ### Bus accesses -/

theorem State.changes_access {s after : State} (h : s.Changes after) : s.Changes (s.access after) := by
  unfold State.access
  split
  · exact .refl
  · exact h

theorem State.changes_writeCmd (s : State) (code : Byte) : s.Changes (s.writeCmd code) :=
  State.changes_ite _ (fun _ => (s.sameWork_bus _ _ _ _ _ _ _ _).changes)
    ((s.sameWork_bus _ _ _ _ _ _ _ _).changes)

theorem State.changes_writeAckcause (s : State) (v : Byte) : s.Changes (s.writeAckcause v) :=
  (s.sameWork_bus _ _ _ _ _ _ _ _).changes

theorem State.changes_writeCauseen (s : State) (v : Byte) : s.Changes (s.writeCauseen v) :=
  (s.sameWork_bus _ _ _ _ _ _ _ _).changes

theorem State.changes_writeLogmark (s : State) (v : Byte) : s.Changes (s.writeLogmark v) :=
  (State.Change.one (.threshold (Nat.min_le_right _ _)))

theorem State.group_writeGroupdone (s : State) (v : Byte) (g : GroupNo) :
    (s.writeGroupdone v).group g = { s.group g with done := (s.group g).done && !v.getLsbD (g.val + 1) } := by
  simp [State.group, State.writeGroupdone, Vector.get_eq_getElem]

theorem State.changes_writeGroupdone (s : State) (v : Byte) : s.Changes (s.writeGroupdone v) := by
  have hgroups (g : GroupNo) : ((s.writeGroupdone v).group g).state = (s.group g).state ∧
      ((s.writeGroupdone v).group g).openList = (s.group g).openList := by
    rw [State.group_writeGroupdone]
    exact ⟨rfl, rfl⟩
  refine State.SameWork.changes ⟨?_, ?_, ?_, ?_, ?_, hgroups, ?_, ?_, ?_⟩ <;> simp only [State.writeGroupdone]

theorem State.changes_writeParam (s : State) (k : Fin 16) (v : Byte) : s.Changes (s.writeParam k v) :=
  (s.sameWork_bus _ _ _ _ _ _ _ _).changes

theorem State.changes_writeWindow (s : State) (o : BitVec 5) (v : Byte) : s.Changes (s.writeWindow o v) := by
  unfold State.writeWindow
  split
  · exact s.changes_writeCmd v
  · exact s.changes_writeAckcause v
  · exact s.changes_writeCauseen v
  · exact s.changes_writeLogmark v
  · exact s.changes_writeGroupdone v
  · split
    · exact s.changes_writeParam _ v
    · exact .refl

theorem State.changes_drive (s : State) (b : Byte) : s.Changes (s.drive b) :=
  (s.sameWork_bus _ _ _ _ _ _ _ _).changes

theorem State.changes_writeResult (s : State) (bytes : List Byte) : s.Changes (s.writeResult bytes) :=
  (s.sameWork_bus _ _ _ _ _ _ _ _).changes

theorem State.changes_pop {s popped : State} (h : s.Changes popped) : s.Changes (s.pop popped) := by
  unfold State.pop
  split
  · exact s.changes_drive _
  · exact h

/-! ### The channels -/

theorem State.changes_expireWatch (s : State) (ch : ChanNo) (d : Tick) (hwatch : (s.channel ch).watch = some d) :
    s.Changes (s.expireWatch ch d) := by
  unfold State.expireWatch
  obtain ⟨l, hlogged, hlength⟩ := s.logged_logChannel ch (channelCapture ch .watch false true d (some (s.channel ch).limit))
  simp only [hlogged]
  have hmarked : s.Changes ((s.setLog l).setChannel ch { s.channel ch with violationMark := true, watch := none }) := by
    refine .trans (State.Change.one (.log hlength)) (State.Change.one (.channel rfl (fun _ => ⟨rfl, fun _ => rfl⟩) ?_))
    rintro ⟨hmode, hlimit, -⟩
    refine ⟨hmode, fun h => absurd rfl h, fun _ => ⟨fun hnone => ?_, rfl⟩⟩
    obtain ⟨-, -, heq⟩ := hlimit (by rw [State.setLog_channel, hwatch]; exact Option.some_ne_none d)
    have hreference : (s.channel ch).reference = none := hnone
    rw [State.setLog_channel, hwatch, hreference] at heq
    cases heq
  exact State.changes_ite _ (fun _ => hmarked.trans (State.Change.one (.launch ch d))) hmarked

theorem Channel.cleared_measured (x : Channel) : x.cleared.Measured := by simp [Channel.Measured, Channel.cleared]

theorem State.changes_dropReference (s : State) (ch : ChanNo) : s.Changes (s.dropReference ch) :=
  (State.Change.one (.channel rfl (fun _ => ⟨rfl, fun _ => rfl⟩) fun _ => Channel.cleared_measured _))

theorem State.changes_takeReachedWatch (s : State) (ch : ChanNo) : s.Changes (s.takeReachedWatch ch) := by
  unfold State.takeReachedWatch
  split
  · exact .refl
  · rename_i d hreached
    exact s.changes_expireWatch ch d (Option.filter_eq_some_iff.mp hreached).1

theorem State.channel_launch (s : State) (ch : ChanNo) (trigger : Tick) (c : ChanNo) :
    (s.launch ch trigger).channel c = if c = ch then { s.channel ch with parked := [] } else s.channel c := by
  rw [State.channel, s.launch_channels]
  exact s.channel_setChannel ch c _

/-- What an expiry of the watch leaves of the channel's record. -/
theorem State.channel_expireWatch (s : State) (ch : ChanNo) (d : Tick) :
    (s.expireWatch ch d).channel ch =
      { s.channel ch with
        violationMark := true
        watch := none
        parked := if (s.channel ch).launchSource = .violation then [] else (s.channel ch).parked } := by
  unfold State.expireWatch
  obtain ⟨l, hlogged, -⟩ := s.logged_logChannel ch (channelCapture ch .watch false true d (some (s.channel ch).limit))
  simp only [hlogged]
  by_cases hlaunch : (s.channel ch).launchSource = .violation
  · simp [hlaunch, State.channel_launch]
  · simp [hlaunch]

/-- The expiries before an edge come by changes and keep the channel's mode. -/
theorem State.changes_catchUp (s : State) (ch : ChanNo) :
    s.Changes (s.catchUp ch) ∧ ((s.catchUp ch).channel ch).mode = (s.channel ch).mode := by
  have hwatched : ∀ d, (s.channel ch).watch = some d →
      s.Changes (if distance s.now d < 0 then s.expireWatch ch d else s) ∧
        ((if distance s.now d < 0 then s.expireWatch ch d else s).channel ch).mode = (s.channel ch).mode := by
    intro d hd
    split
    · exact ⟨s.changes_expireWatch ch d hd, by rw [State.channel_expireWatch]⟩
    · exact ⟨.refl, rfl⟩
  have hdropped : ∀ (u : State) (r : Tick), s.Changes u ∧ (u.channel ch).mode = (s.channel ch).mode →
      s.Changes (if Config.referenceLife < (s.now - r).toNat then u.dropReference ch else u) ∧
        ((if Config.referenceLife < (s.now - r).toNat then u.dropReference ch else u).channel ch).mode
          = (s.channel ch).mode := by
    rintro u r ⟨hu, hmode⟩
    split
    · exact ⟨hu.trans (u.changes_dropReference ch), by rw [State.dropReference, State.channel_setChannel_self]; exact hmode⟩
    · exact ⟨hu, hmode⟩
  unfold State.catchUp
  simp only
  cases hw : (s.channel ch).watch with
  | none =>
    cases (s.channel ch).reference with
    | none => exact ⟨.refl, rfl⟩
    | some r => exact hdropped s r ⟨.refl, rfl⟩
  | some d =>
    cases (s.channel ch).reference with
    | none => exact hwatched d hw
    | some r => exact hdropped _ r (hwatched d hw)

theorem Channel.restarted_measured {x : Channel} (t : Tick) (hmode : x.mode = .period ∨ x.mode = .width) :
    (x.restarted t).Measured := by
  refine ⟨fun _ => hmode, fun hwatch => ?_, fun hmark => absurd hmark Bool.false_ne_true⟩
  simp only [Channel.restarted, Channel.watchFrom] at hwatch ⊢
  split at hwatch
  · rename_i h
    exact ⟨h.1, h.2, by rw [if_pos h]; rfl⟩
  · exact absurd rfl hwatch

theorem State.changes_restart (s : State) (ch : ChanNo) (hmode : (s.channel ch).mode = .period ∨ (s.channel ch).mode = .width)
    (t : Tick) : s.Changes (s.setChannel ch ((s.channel ch).restarted t)) :=
  (State.Change.one (.channel rfl (fun _ => ⟨rfl, fun _ => rfl⟩) fun _ => Channel.restarted_measured t hmode))

/-- Changes, and then a launch where its condition holds. -/
theorem State.changes_launch_if {s u : State} (p : Prop) [Decidable p] (ch : ChanNo) (trigger : Tick) (h : s.Changes u) :
    s.Changes (if p then u.launch ch trigger else u) :=
  State.changes_ite _ (fun _ => h.trans (State.Change.one (.launch ch trigger))) h

theorem State.changes_stampEdge (s : State) (ch : ChanNo) (dir : EdgeDir) : s.Changes (s.stampEdge ch dir) :=
  State.changes_launch_if _ ch _ (s.logged_logChannel ch _).changes

theorem State.changes_openInterval (s : State) (ch : ChanNo)
    (hmode : (s.channel ch).mode = .period ∨ (s.channel ch).mode = .width) : s.Changes (s.openInterval ch) :=
  State.changes_launch_if _ ch _ (s.changes_restart ch hmode s.now)

theorem State.changes_periodEdge (s : State) (ch : ChanNo) (dir : EdgeDir)
    (hmode : (s.channel ch).mode = .period ∨ (s.channel ch).mode = .width) : s.Changes (s.periodEdge ch dir) := by
  unfold State.periodEdge
  split
  · exact s.changes_openInterval ch hmode
  · rename_i reference _
    refine State.changes_launch_if _ ch _ ?_
    obtain ⟨l, hlogged, hlength⟩ : s.Logged (s.logInterval ch dir reference) := s.logged_logChannel ch _
    rw [hlogged]
    exact (State.Change.one (.log hlength)).trans ((s.setLog l).changes_restart ch hmode s.now)

theorem State.changes_widthClose (s : State) (ch : ChanNo) (dir : EdgeDir) : s.Changes (s.widthClose ch dir) := by
  unfold State.widthClose
  split
  · exact .refl
  · rename_i reference _
    have hlogged : s.Logged (s.logInterval ch dir reference) := s.logged_logChannel ch _
    exact State.changes_launch_if _ ch _ (hlogged.changes.trans (State.changes_dropReference _ ch))

/-- How far the lead due of an ACTIVE slot lies behind now, from the true counts of its lead and of its END entry (R71; log
10). -/
theorem leadBehind_true {now leadDue leadTime : Tick} {width : Half} {leadPast endPast : Nat}
    (hlead : PastTrue leadTime leadDue leadPast) (hend : PastTrue now (leadTime + width.zeroExtend 32) endPast) :
    now - leadDue = BitVec.ofNat 32 (ticksBehind leadTime leadDue leadPast
      + (if endPast = 0 then (now - leadTime).toNat else width.toNat + 2147483648 + endPast)) := by
  have hfirst : leadTime - leadDue = BitVec.ofNat 32 (ticksBehind leadTime leadDue leadPast) := by
    unfold ticksBehind
    split
    · rw [BitVec.ofNat_toNat, BitVec.setWidth_eq]
    · exact hlead ‹_›
  have hsecond : now - leadTime
      = BitVec.ofNat 32 (if endPast = 0 then (now - leadTime).toNat else width.toNat + 2147483648 + endPast) := by
    split
    · rw [BitVec.ofNat_toNat, BitVec.setWidth_eq]
    · have hfloor := hend ‹_›
      have hwidth : width.zeroExtend 32 = BitVec.ofNat 32 width.toNat := by
        apply BitVec.eq_of_toNat_eq
        simp
      calc now - leadTime = (now - (leadTime + width.zeroExtend 32)) + width.zeroExtend 32 := by ring
        _ = BitVec.ofNat 32 (2147483648 + endPast) + BitVec.ofNat 32 width.toNat := by rw [hfloor, hwidth]
        _ = BitVec.ofNat 32 (width.toNat + 2147483648 + endPast) := by
          rw [← BitVec.ofNat_add, Nat.add_comm, Nat.add_assoc]
  rw [BitVec.ofNat_add, ← hfirst, ← hsecond]
  ring

theorem Slot.pastTrue_of_leadPastFits {h : Held} {leadDue leadTime : Tick} {leadPast : Nat}
    (hfits : (Slot.active h leadDue leadTime leadPast).leadPastFits = true) : PastTrue leadTime leadDue leadPast := by
  intro hpast
  simpa [Slot.leadPastFits, hpast] using hfits

/-- An entry of the calendar that belongs to an ACTIVE slot is its END entry (R1, R36). -/
theorem State.CalendarHolds.due_of_active {s : State} (hcal : s.CalendarHolds) {e : Entry} (he : e ∈ s.calendar) {h : Held}
    {leadDue leadTime : Tick} {leadPast : Nat} (hslot : s.slot e.slot = .active h leadDue leadTime leadPast) :
    e.due = leadTime + (h.action.width.getD 0).zeroExtend 32 := by
  have hmem : (e.phase, e.due) ∈ (s.slot e.slot).entries := by
    rw [← hcal e.slot]
    exact List.mem_map.mpr ⟨e, List.mem_filter.mpr ⟨he, beq_self_eq_true _⟩, rfl⟩
  rw [hslot] at hmem
  simpa [Slot.entries] using (Prod.ext_iff.mp (List.mem_singleton.mp hmem)).2

/-- The END entry of an ACTIVE slot, where the laws hold, gives the count that `leadBehind` reads (log 10). -/
theorem State.leadBehind_eq {s : State} (hcal : s.CalendarHolds) (hpast : s.PastFloorsHold) {n : SlotNo} {h : Held}
    {leadDue leadTime : Tick} {leadPast : Nat} (hslot : s.slot n = .active h leadDue leadTime leadPast) {endPast : Nat}
    (hend : endPast ≠ 0 → ∃ e ∈ s.calendar, e.slot = n ∧ e.pastFloor = endPast) :
    s.now - leadDue = BitVec.ofNat 32 (s.leadBehind h leadDue leadTime leadPast endPast) := by
  refine leadBehind_true (Slot.pastTrue_of_leadPastFits (h := h) (hslot ▸ hpast.2 n)) fun hne => ?_
  obtain ⟨e, he, rfl, rfl⟩ := hend hne
  rw [← hcal.due_of_active he hslot]
  exact hpast.1 e he hne

theorem State.entryPast_ne_zero {s : State} {n : SlotNo} (h : s.entryPast n ≠ 0) :
    ∃ e ∈ s.calendar, e.slot = n ∧ e.pastFloor = s.entryPast n := by
  unfold State.entryPast at h ⊢
  cases hfind : s.calendar.find? (fun e => e.slot == n) with
  | none => rw [hfind] at h; exact absurd rfl h
  | some e => exact ⟨e, List.mem_of_find?_eq_some hfind, by simpa using List.find?_some hfind, rfl⟩

theorem State.changes_acknowledge (s : State) (ch : ChanNo) (dir : EdgeDir) (n : SlotNo)
    (hclaim : (s.channel ch).ackClaim = some n) : s.Changes (s.acknowledge ch dir n) := by
  obtain ⟨l, hlogged, hlength⟩ := s.logged_logChannel ch (channelCapture ch .ack (edgeFlag dir) false s.now none)
  unfold State.acknowledge
  simp only [hlogged]
  refine (State.Change.one (.log hlength)).trans ?_
  cases hslot : s.slot n with
  | active h a b p =>
    refine .trans ?_ (State.changes_runEndedCommits _)
    have leaves : (s.setLog l).Leaves n h ((s.setLog l).cut n h) := .active hslot .withdrawn
    refine leaves.continues (h.acknowledged s.now b) rfl
      (fun hfits => Slot.remaining_le_of_fits (h := h) leaves.held hfits) a _ fun hcal hpast => ?_
    have hnow : ((s.setLog l).cut n h).now = s.now := State.releaseClaims_now _ h
    rw [hnow]
    exact State.leadBehind_eq (s := s.setLog l) hcal hpast hslot
      fun hne => State.entryPast_ne_zero (s := s.setLog l) hne
  | _ =>
    refine (State.Change.one (.channel rfl (fun hacks => ?_) id))
    have hstrobe := ((hacks ch).1 n).mp hclaim
    rw [State.setLog_slot, hslot] at hstrobe
    exact absurd hstrobe Bool.false_ne_true

theorem State.changes_observeEdge (s : State) (ch : ChanNo) (dir : EdgeDir) : s.Changes (s.observeEdge ch dir) := by
  obtain ⟨hcaught, hkept⟩ := s.changes_catchUp ch
  unfold State.observeEdge
  simp only
  cases hmode : (s.channel ch).mode with
  | off => exact .refl
  | stamp => exact State.changes_ite _ (fun _ => s.changes_stampEdge ch dir) .refl
  | period =>
    exact State.changes_ite _
      (fun _ => hcaught.trans (State.changes_periodEdge _ ch dir (.inl (hkept.trans hmode)))) .refl
  | width =>
    exact State.changes_ite _
      (fun _ => hcaught.trans (State.changes_openInterval _ ch (.inr (hkept.trans hmode))))
      (hcaught.trans (State.changes_widthClose _ ch dir))
  | ack =>
    refine State.changes_ite _ (fun _ => ?_) .refl
    unfold State.ackEdge
    split
    · rename_i n hclaim
      exact s.changes_acknowledge ch dir n hclaim
    · exact (s.logged_logChannel ch _).changes

/-! ### The releases -/

theorem Held.attempted_action (h : Held) : h.attempted.action = h.action := by
  unfold Held.attempted
  split <;> rfl

/-- An attempt of a SCHEDULED slot leaves remaining within its count (R4, R62). -/
theorem Held.attempted_remaining_le {h : Held} {due : Tick} (hfits : (Slot.scheduled h due).remainingFits = true) :
    h.attempted.remaining.toNat ≤ h.attempted.action.count.toNat := by
  simp only [Slot.remainingFits, Bool.and_eq_true, decide_eq_true_eq, Bool.or_eq_true, beq_iff_eq, bne_iff_ne] at hfits
  obtain ⟨hle, hleft⟩ := hfits
  unfold Held.attempted
  split
  · exact hle
  · rename_i hcount
    have hne : h.remaining ≠ 0 := hleft.resolve_left hcount
    have hpos : h.remaining.toNat ≠ 0 := fun h0 => hne (BitVec.eq_of_toNat_eq h0)
    show (h.remaining - 1).toNat ≤ h.action.count.toNat
    have hlt := h.remaining.isLt
    have hsub : (h.remaining - 1).toNat = h.remaining.toNat - 1 := by
      rw [BitVec.toNat_sub, show (1 : Half).toNat = 1 from rfl]
      omega
    omega

/-- How far the due time of an entry of the calendar lies behind now (log 10). -/
theorem State.PastFloorsHold.behind {s : State} (h : s.PastFloorsHold) {e : Entry} (he : e ∈ s.calendar) :
    s.now - e.due = BitVec.ofNat 32 (e.behind s.now) := by
  unfold Entry.behind ticksBehind
  split
  · rw [BitVec.ofNat_toNat, BitVec.setWidth_eq]
  · exact h.1 e he ‹_›

/-- The continuation of the LEAD entry at the head of the calendar, with the statistics of its attempt. -/
theorem State.changes_continueLead (s : State) {e : Entry} {rest : List Entry} {h new : Held} {due : Tick}
    (hcalendar : s.calendar = e :: rest) (hslot : s.slot e.slot = .scheduled h due) (haction : new.action = h.action)
    (hremaining : new.remaining = h.attempted.remaining) : s.Changes ((s.setCalendar rest).continueLead e new) := by
  have leaves : s.Leaves e.slot h (s.setCalendar rest) := .scheduled hslot (.released hcalendar rfl)
  refine leaves.continues new haction (fun hfits => ?_) e.due _ fun _ hpast =>
    hpast.behind (by rw [hcalendar]; exact List.mem_cons_self)
  rw [hslot] at hfits
  rw [hremaining, haction, ← h.attempted_action]
  exact Held.attempted_remaining_le hfits

theorem State.changes_refuseAttempt (s : State) {e : Entry} {rest : List Entry} {h : Held} {due : Tick} (reason : Status)
    (hcalendar : s.calendar = e :: rest) (hslot : s.slot e.slot = .scheduled h due) :
    s.Changes ((s.setCalendar rest).refuseAttempt e h.attempted reason) := by
  unfold State.refuseAttempt
  split
  · have leaves : s.Leaves e.slot h (s.setCalendar rest) := .scheduled hslot (.released hcalendar rfl)
    exact (State.Change.one (.move leaves (.complete reason) h.attempted_action fun hfits =>
      Held.attempted_remaining_le (hslot ▸ hfits)))
  · obtain ⟨l, hlogged, hlength⟩ := s.logged_logMiss e.slot h.attempted reason
    rw [State.logMiss_setCalendar, hlogged]
    exact (State.Change.one (.log hlength)).trans
      ((s.setLog l).changes_continueLead hcalendar hslot h.attempted_action rfl)

/-- What an attempt that no check of R61 refuses has found. -/
theorem State.refusal_eq_none {s : State} {h : Held} {lateness : Nat} (hnone : s.refusal h lateness = none) :
    (∀ l, h.action.line = some l → (s.line l).claim = none) ∧
    (h.action.kind = .strobe → ∀ c, h.action.channel = some c →
      (s.channel c).mode = .ack ∧ (s.channel c).ackClaim = none) := by
  unfold State.refusal at hnone
  split at hnone
  · cases hnone
  split at hnone
  · cases hnone
  rename_i hclaimed
  refine ⟨fun l hl => ?line, fun hstrobe c hc => ?channel⟩
  case line => simpa [State.lineClaimed, hl] using hclaimed
  case channel =>
    rw [if_pos hstrobe] at hnone
    simp only [State.channelOf, hc, Option.map_some] at hnone
    split at hnone
    · cases hnone
    rename_i hmode
    split at hnone
    · cases hnone
    rename_i hbusy
    exact ⟨not_not.mp hmode, by simpa using hbusy⟩

/-- A SET, CLEAR or TOGGLE: the line, which no firing claims, its FIRED record and the continuation (R66). -/
theorem State.changes_drivenAttempt (s : State) {e : Entry} {rest : List Entry} {h new : Held} {due : Tick}
    (f : Line → Line) (hf : ∀ x, (f x).claim = x.claim) (lateness : Nat)
    (hcalendar : s.calendar = e :: rest) (hslot : s.slot e.slot = .scheduled h due) (haction : new.action = h.action)
    (hremaining : new.remaining = h.attempted.remaining)
    (hline : ∀ l, h.action.line = some l → (s.line l).claim = none) :
    s.Changes ((((s.setCalendar rest).onLine h.action.line f).logFired e.slot new lateness).continueLead e new) := by
  have hdriven : ((s.setCalendar rest).onLine h.action.line f) = (s.onLine h.action.line f).setCalendar rest := by
    cases h.action.line <;> rfl
  have hchange : s.Changes (s.onLine h.action.line f) := by
    cases hl : h.action.line with
    | none => exact .refl
    | some l => exact (State.Change.one (.line fun _ => ⟨hline l hl, (hf _).trans (hline l hl)⟩))
  obtain ⟨k, hlogged, hlength⟩ := (s.onLine h.action.line f).logged_logFired e.slot new lateness
  rw [hdriven, State.logFired_setCalendar, hlogged]
  refine hchange.trans ((State.Change.one (.log hlength)).trans (State.changes_continueLead _ (due := due) ?_ ?_ haction hremaining))
  · rw [State.onLine_eq]; exact hcalendar
  · rw [State.onLine_eq]; exact hslot

theorem State.changes_performAttempt (s : State) {e : Entry} {rest : List Entry} {h : Held} {due : Tick}
    (hcalendar : s.calendar = e :: rest) (hslot : s.slot e.slot = .scheduled h due) {lateness : Nat}
    (hnone : s.refusal h lateness = none) :
    s.Changes ((s.setCalendar rest).performAttempt e h.attempted) := by
  obtain ⟨hline, hchannel⟩ := State.refusal_eq_none hnone
  have haction := h.attempted_action
  have hfires : s.Changes (((s.setCalendar rest).beginFiring e
      (h.attempted.withFiring (e.lateness s.now))).logFired e.slot (h.attempted.withFiring (e.lateness s.now))
        (e.lateness s.now)) := by
    refine Relation.ReflTransGen.trans ?_ (State.logged_logFired _ _ _ _).changes
    refine State.Change.one (.fire (new := h.attempted.withFiring (e.lateness s.now)) hcalendar hslot haction
      (fun hfits => ?_) (fun l hl => ?_) fun hk c hc => ?_)
    · exact Held.attempted_remaining_le (hslot ▸ hfits)
    · exact hline l (haction ▸ hl)
    · exact hchannel (haction ▸ hk) c (haction ▸ hc)
  cases hkind : h.attempted.action.kind with
  | set | clear | toggle =>
    simp only [State.performAttempt, hkind, State.setCalendar_now]
    rw [haction]
    refine s.changes_drivenAttempt _ ?_ _ hcalendar hslot ?_ ?_ hline
    exacts [fun _ => rfl, haction, rfl]
  | note =>
    obtain ⟨l, hlogged, hlength⟩ := s.logged_logFired e.slot (h.attempted.withFiring (e.lateness s.now)) (e.lateness s.now)
    simp only [State.performAttempt, hkind, State.setCalendar_now, State.logFired_setCalendar, hlogged]
    refine (State.Change.one (.log hlength)).trans ((s.setLog l).changes_continueLead hcalendar hslot ?_ ?_)
    exacts [haction, rfl]
  | pulse | strobe =>
    simp only [State.performAttempt, hkind, State.setCalendar_now]
    exact hfires

theorem State.changes_attempt (s : State) {e : Entry} {rest : List Entry} {h : Held} {due : Tick}
    (hcalendar : s.calendar = e :: rest) (hslot : s.slot e.slot = .scheduled h due) :
    s.Changes ((s.setCalendar rest).attempt e h) := by
  unfold State.attempt
  split
  · exact s.changes_refuseAttempt _ hcalendar hslot
  · rename_i hnone
    exact s.changes_performAttempt (lateness := e.lateness s.now) hcalendar hslot hnone

theorem State.changes_releaseLead (s : State) {e : Entry} {rest : List Entry} (hcalendar : s.calendar = e :: rest)
    (hphase : e.phase = .lead) : s.Changes (s.releaseLead e rest) := by
  unfold State.releaseLead
  cases hslot : s.slot e.slot with
  | scheduled h due => exact (s.changes_attempt hcalendar hslot).trans (State.changes_runCommits 7 _ _)
  | _ => exact (State.Change.one (.dropHead hcalendar (by simp [hslot, hphase, Slot.entries])))

theorem State.changes_releaseEnd (s : State) {e : Entry} {rest : List Entry} (hcalendar : s.calendar = e :: rest)
    (hphase : e.phase = .trailing) : s.Changes (s.releaseEnd e rest) := by
  unfold State.releaseEnd
  cases hslot : s.slot e.slot with
  | active h a b p =>
    have leaves : s.Leaves e.slot h ((s.setCalendar rest).releaseClaims h) := .active hslot (.released hcalendar rfl)
    refine State.changes_ite _ (fun _ => ?_) ?_
    · exact (leaves.completes .timeout).trans (State.changes_runEndedCommits _)
    · refine .trans (leaves.continues h rfl (Slot.remaining_le_of_fits leaves.held) a _ fun hcal hpast => ?_)
        (State.changes_runEndedCommits _)
      rw [State.releaseClaims_now]
      exact State.leadBehind_eq hcal hpast hslot fun _ => ⟨e, by rw [hcalendar]; exact List.mem_cons_self, rfl, rfl⟩
  | _ => exact (State.Change.one (.dropHead hcalendar (by simp [hslot, hphase, Slot.entries])))

/-! ### The timebase -/

theorem State.changes_takeDueAdvance (s : State) : s.Changes s.takeDueAdvance :=
  State.changes_ite _ (fun _ => (State.Change.one .tick)) .refl

theorem State.takeDueAdvance_running (s : State) (h : s.running) : s.takeDueAdvance.tb.state = .running := by
  unfold State.takeDueAdvance
  split
  · exact h
  · exact h

theorem State.changes_countEdge (s : State) (hrunning : s.running) : s.Changes (s.setTimebase s.tb.countEdge) := by
  refine (State.Change.one (.time (.inl ?_) fun ⟨hlow, hhigh, hcount, hdue⟩ => ?_))
  · unfold Timebase.countEdge
    split <;> rfl
  · have hlt := hcount hrunning
    unfold Timebase.countEdge
    split
    · refine ⟨hlow, hhigh, fun _ => hlow, fun h => ?_⟩
      rw [State.setTimebase_tb, hrunning] at h
      cases h
    · refine ⟨hlow, hhigh, fun _ => ?_, fun h => ?_⟩
      · simp only [State.setTimebase_tb]
        omega
      · rw [State.setTimebase_tb, hrunning] at h
        cases h

/-! ### Every command and every step -/

/-- Every command and event is composed of changes. -/
theorem exec_changes (c : Instr) (s t : State) (h : exec c s = .next t) : s.Changes t := by
  cases c with
  | taking code => cases h; exact State.changes_access (s.changes_writeCmd code)
  | post => cases h; exact State.changes_finish s.repliesByChanges_post _
  | cancel => cases h; exact State.changes_finish s.repliesByChanges_cancel _
  | commit => cases h; exact State.changes_finish s.repliesByChanges_commit _
  | discard => cases h; exact State.changes_finish s.repliesByChanges_discard _
  | channel => cases h; exact State.changes_finish s.repliesByChanges_channel _
  | line => cases h; exact State.changes_finish s.repliesByChanges_line _
  | force => cases h; exact State.changes_finish s.repliesByChanges_force _
  | timebaseStart => cases h; exact s.changes_timebase _ _ fun _ _ => s.changes_startTime
  | timebaseStop => cases h; exact s.changes_timebase _ _ fun _ _ => s.changes_stopTime
  | timebaseLoad =>
    cases h
    refine s.changes_timebase _ _ fun hop hpassed => s.changes_loadTime _ ?_
    obtain ⟨-, -, -, hempty⟩ := s.timebaseRefusal_eq_none_iff.mp hpassed
    exact by_contra fun hne => hempty ⟨hop, hne⟩
  | timebaseSource =>
    cases h
    refine s.changes_timebase _ _ fun hop hpassed => s.changes_applySource fun hrunning => ?_
    obtain ⟨-, -, hstate, -⟩ := s.timebaseRefusal_eq_none_iff.mp hpassed
    exact hstate (.inr (.inr ⟨.inr hop, hrunning⟩))
  | lateness =>
    cases h
    exact State.changes_finish (State.repliesByChanges_ok (s.sameWork_bus _ _ _ _ _ _ _ _).changes) _
  | flush => cases h; exact State.changes_finish (State.repliesByChanges_ok (State.Change.one (.log fun _ => by simp))) _
  | quiesce => cases h; exact State.changes_finish (State.repliesByChanges_ok (State.Change.one .quiesce)) _
  | inspectSlot | inspectGroup | inspectChannel | inspectLines | inspectTime =>
    cases h; exact State.changes_finish (s.repliesByChanges_inspect _) _
  | badcmd => cases h; exact State.changes_finish (s.repliesByChanges_error _) _
  | donepop =>
    cases h
    refine State.changes_pop (State.changes_ite _ (fun _ => s.changes_drive _) ?_)
    split
    · exact s.changes_drive _
    · rename_i hqueue
      exact (State.Change.one (.popDone hqueue)).trans (State.changes_drive _ _)
  | logpop =>
    cases h
    refine State.changes_pop (State.changes_ite _ (fun _ => s.changes_drive _) ?_)
    split
    · exact s.changes_drive _
    · rename_i c rest hlog
      refine (State.Change.one (.log fun hle => ?_)).trans
        ((State.changes_writeResult _ _).trans (State.changes_drive _ _))
      rw [hlog, List.length_cons] at hle
      omega
  | ackcause v => cases h; exact State.changes_access (s.changes_writeAckcause v)
  | causeen v => cases h; exact State.changes_access (s.changes_writeCauseen v)
  | logmark v => cases h; exact State.changes_access (s.changes_writeLogmark v)
  | groupdone v => cases h; exact State.changes_access (s.changes_writeGroupdone v)
  | registerWrite o v => cases h; exact State.changes_access (s.changes_writeWindow o v)
  | hardwareReset =>
    cases h
    exact (State.Change.one .reset).trans (State.reset.sameWork_bus _ _ _ _ _ _ _ _).changes
  | sourceEdge pin =>
    cases h
    refine State.changes_ite _ (fun hcounted => ?_) .refl
    exact s.changes_takeDueAdvance.trans (State.changes_countEdge _ (s.takeDueAdvance_running hcounted.1))
  | advance => cases h; exact State.changes_ite _ (fun _ => s.changes_takeDueAdvance) .refl
  | edge ch dir =>
    cases h
    have hpin : s.Changes (s.setPin ch (edgeFlag dir)) :=
      (s.sameWork_bus _ _ _ _ _ _ _ _).changes
    exact State.changes_ite _ (fun _ => hpin.trans (State.changes_observeEdge _ ch dir)) hpin
  | watchExpiry ch => cases h; exact State.changes_ite _ (fun _ => s.changes_takeReachedWatch ch) .refl
  | referenceExpiry ch =>
    cases h
    exact State.changes_ite _
      (fun _ => (s.changes_takeReachedWatch ch).trans (State.changes_dropReference _ ch)) .refl
  | leadRelease =>
    cases h
    split
    · exact .refl
    · rename_i hcalendar
      exact State.changes_ite _ (fun hdue => s.changes_releaseLead hcalendar hdue.2.2) .refl
  | endRelease =>
    cases h
    split
    · exact .refl
    · rename_i hcalendar
      exact State.changes_ite _ (fun hdue => s.changes_releaseEnd hcalendar hdue.2.2) .refl

/-- What every change keeps, every step keeps. -/
theorem step_keeps {P : State → Prop} (hkeep : ∀ s t : State, s.Change t → P s → P t) {s t : State}
    (hs : P s) (hstep : step s = .next t) : P t := by
  unfold step at hstep
  split at hstep
  · cases hstep
    exact hs
  · rename_i c rest _
    have htaken : s.Changes { s with pending := rest } :=
      (s.sameWork_bus _ _ _ _ _ _ _ _).changes
    exact State.Changes.keeps hkeep (htaken.trans (exec_changes c _ t hstep)) hs

end Sys2Proof.Machine
end

section
/-! The shape that the laws on slots and their collections share (Section 1.1): each of them is kept where a slot leaves its
collection, with the slot FREE in between, and where it enters the next one; so each is kept by the operations over many
slots too. -/

namespace Sys2Proof.Machine

/-! ### Reading the state after the shared operations -/

theorem State.SameWork.slot {s t : State} (same : s.SameWork t) (n : SlotNo) : t.slot n = s.slot n := by
  simp only [State.slot, same.slots]

theorem State.SameWork.line {s t : State} (same : s.SameWork t) (l : LineNo) : t.line l = s.line l := by
  simp only [State.line, same.lines]

theorem State.SameWork.channel {s t : State} (same : s.SameWork t) (c : ChanNo) : t.channel c = s.channel c := by
  simp only [State.channel, same.channels]

theorem State.SameWork.now {s t : State} (same : s.SameWork t) : t.now = s.now := by simp only [State.now, same.tb]

theorem State.slot_park (s : State) (n m : SlotNo) (h : Held) :
    (s.park n h).slot m = if m = n then .parked h else s.slot m := by
  rw [State.park_eq]
  exact s.slot_setSlot n m _

theorem State.park_calendar (s : State) (n : SlotNo) (h : Held) : (s.park n h).calendar = s.calendar := by
  rw [State.park_eq]

theorem State.park_now (s : State) (n : SlotNo) (h : Held) : (s.park n h).now = s.now := by
  rw [State.park_eq]
  rfl

theorem State.park_doneQueue (s : State) (n : SlotNo) (h : Held) : (s.park n h).doneQueue = s.doneQueue := by
  rw [State.park_eq]

theorem State.line_park (s : State) (n : SlotNo) (h : Held) (l : LineNo) : (s.park n h).line l = s.line l := by
  rw [State.park_eq]
  rfl

/-- The lead of a PULSE or STROBE, field by field (R68, R69). -/
theorem State.beginFiring_eq (s : State) (e : Entry) (h : Held) :
    s.beginFiring e h =
      { s with
        slots := s.slots.set e.slot.val (.active h e.due s.now e.pastFloor) e.slot.isLt
        calendar := insertEntry s.now
          ⟨e.slot, .trailing, s.now + (h.action.width.getD 0).zeroExtend 32, 0⟩ s.calendar
        lines := (s.beginFiring e h).lines
        channels := (s.beginFiring e h).channels } := by
  unfold State.beginFiring
  cases h.action.line <;> cases h.action.channel <;> simp only <;> split <;> rfl

theorem State.slot_beginFiring (s : State) (e : Entry) (h : Held) (m : SlotNo) :
    (s.beginFiring e h).slot m = if m = e.slot then .active h e.due s.now e.pastFloor else s.slot m := by
  rw [State.beginFiring_eq]
  exact s.slot_setSlot e.slot m _

theorem State.line_beginFiring (s : State) (e : Entry) (h : Held) (k : LineNo) :
    (s.beginFiring e h).line k
      = if h.action.line = some k then { s.line k with isActive := true, claim := some e.slot } else s.line k := by
  have hl := State.line_onLine s h.action.line (fun l => { l with isActive := true, claim := some e.slot }) k
  unfold State.beginFiring
  simp only [State.insert_line, State.setSlot_line]
  split
  · rw [State.onChannel_eq]
    exact hl
  · exact hl

theorem State.channel_beginFiring (s : State) (e : Entry) (h : Held) (k : ChanNo) :
    (s.beginFiring e h).channel k
      = if h.action.kind = .strobe ∧ h.action.channel = some k then { s.channel k with ackClaim := some e.slot }
        else s.channel k := by
  have hs : ∀ c, (s.onLine h.action.line (fun l => { l with isActive := true, claim := some e.slot })).channel c
      = s.channel c := fun c => by rw [State.onLine_eq]; rfl
  unfold State.beginFiring
  simp only [State.insert_channel, State.setSlot_channel]
  split
  · rename_i hk
    rw [State.channel_onChannel]
    simp [hk, hs]
  · rename_i hk
    simp [hk, hs]

/-! ### Where a slot's collections are none but an open list -/

/-- The slot is FREE or OPEN: it stands in no collection but an open list (R1). -/
def Slot.isUnplaced : Slot → Bool
  | .free => true
  | .opened _ => true
  | _ => false

/-- A law on the slots and their collections: kept where an unplaced slot is rewritten, where a slot leaves its collection,
and where it enters the next. `strict` says whether it needs the counts of new entries to be true. -/
structure SlotLaw (strict : Prop) (P : State → Prop) : Prop where
  unplaced : ∀ {s : State} {n : SlotNo} {x : Slot}, (s.slot n).isUnplaced = true → x.isUnplaced = true → P s →
    P (s.setSlot n x)
  leaves : ∀ {s u : State} {n : SlotNo} {h : Held}, s.Leaves n h u → P s → P (u.setSlot n .free)
  enters : ∀ {s t : State} {n : SlotNo} {h : Held}, s.Enters strict n h t → P (s.setSlot n .free) → P t
  group : ∀ {s : State} {g : GroupNo} {x : Group}, P s → P (s.setGroup g x)

theorem State.Enters.weaken {strong weak : Prop} {s t : State} {n : SlotNo} {h : Held}
    (enters : s.Enters strong n h t) (himp : weak → strong) : s.Enters weak n h t := by
  cases enters with
  | complete status => exact .complete status
  | scheduled hleft hpast => exact .scheduled hleft fun hweak => hpast (himp hweak)
  | parked hloaded => exact .parked hloaded

/-- Placement is an entry to the calendar or to a parked list, with remaining loaded (R10). -/
theorem State.place_enters (lawful : Prop) (s : State) (n : SlotNo) (h : Held) :
    s.Enters lawful n h.reloaded (s.place n h) := by
  have hleft : h.reloaded.action.count = 0 ∨ h.reloaded.remaining ≠ 0 := eq_or_ne h.action.count 0
  rcases s.place_cases n h with ⟨-, e⟩ | ⟨-, e⟩ | ⟨-, e⟩ <;> rw [e]
  · exact .scheduled hleft fun _ hpast => absurd rfl hpast
  · exact .scheduled hleft fun _ hpast => absurd rfl hpast
  · exact .parked rfl

namespace SlotLaw

variable {strict : Prop} {P : State → Prop} (law : SlotLaw strict P)
include law

theorem move {s u t : State} {n : SlotNo} {old new : Held} (leaves : s.Leaves n old u)
    (enters : u.Enters (s.CalendarHolds ∧ s.PastFloorsHold) n new t)
    (hlaws : strict → s.CalendarHolds ∧ s.PastFloorsHold) (hs : P s) : P t :=
  law.enters (enters.weaken hlaws) (law.leaves leaves hs)

theorem place {s : State} {n : SlotNo} (h : Held) (hslot : (s.slot n).isUnplaced = true) (hs : P s) :
    P (s.place n h) :=
  law.enters (s.place_enters strict n h) (law.unplaced hslot rfl hs)

theorem commitMembers {s : State} (g : GroupNo) (cause : CommitCause) (hs : P s) : P (s.commitMembers g cause) := by
  refine law.group (foldl_invariant State.placeMember P (fun t n ht => ?_) _ s hs)
  rcases t.placeMember_cases n with ⟨h, hslot, e⟩ | ⟨-, e⟩ <;> rw [e]
  · exact law.place h (by rw [hslot]; rfl) ht
  · exact ht

theorem discard {s : State} (g : GroupNo) (hs : P s) :
    P (((s.group g).openList.foldl State.freeOpen s).setGroup g (s.group g).emptied) := by
  refine law.group (foldl_invariant State.freeOpen P (fun t n ht => ?_) _ s hs)
  unfold State.freeOpen
  cases hslot : t.slot n with
  | opened h => exact law.unplaced (by rw [hslot]; rfl) rfl ht
  | _ => exact ht

theorem openInto {s : State} {n : SlotNo} (h : Held) (g : GroupNo) (hfree : s.slot n = .free) (hs : P s) :
    P (s.openInto n h g) :=
  law.group (law.unplaced (by rw [hfree]; rfl) rfl hs)

theorem cancelOpen {s : State} {n : SlotNo} {h : Held} (hslot : s.slot n = .opened h) (hs : P s) :
    P (s.cancelOpen n h) := by
  have hfreed : P (s.setSlot n .free) := law.unplaced (by rw [hslot]; rfl) rfl hs
  unfold State.cancelOpen
  split
  · exact hfreed
  · exact law.group hfreed

theorem quiesceSlots {s : State} (hs : P s) : P (slotNumbers.foldl State.quiesceSlot s) := by
  refine foldl_invariant State.quiesceSlot P (fun t n ht => ?_) _ s hs
  unfold State.quiesceSlot
  cases hslot : t.slot n with
  | free | complete _ _ _ => exact ht
  | opened h => exact law.unplaced (by rw [hslot]; rfl) rfl ht
  | scheduled h due => exact law.enters (.complete .quiesced) (law.leaves (.scheduled hslot .withdrawn) ht)
  | parked h => exact law.enters (.complete .quiesced) (law.leaves (.parked hslot) ht)
  | active h a b p => exact law.enters (.complete .quiesced) (law.leaves (.active hslot .withdrawn) ht)

/-- A QUIESCE keeps a law that its changes to the groups, the lines and the measurement state keep. -/
theorem quiesce {s : State} (hgroups : ∀ t : State, P t → P t.emptyGroups) (hlines : ∀ t : State, P t → P t.idleLines)
    (hchannels : ∀ t : State, P t → P t.clearMeasurements) (hs : P s) : P s.quiesced :=
  hchannels _ (hlines _ (law.quiesceSlots (hgroups s hs)))

/-- A launch keeps a law that reads no parked list. -/
theorem launch {s : State} (ch : ChanNo) (trigger : Tick)
    (hlist : ∀ t : State, P t → P (t.setChannel ch { t.channel ch with parked := [] }))
    (hparked : ∀ (t : State) (n : SlotNo) (h : Held), t.slot n = .parked h → P t → P (t.setSlot n .free)) (hs : P s) :
    P (s.launch ch trigger) := by
  refine foldl_invariant (State.launchSlot trigger) P (fun t n ht => ?_) _ _ (hlist s hs)
  rcases t.launchSlot_cases trigger n with ⟨h, hslot, e⟩ | ⟨-, e⟩ <;> rw [e]
  · exact law.enters (.scheduled (eq_or_ne h.action.count 0) fun _ hpast => absurd rfl hpast) (hparked t n h hslot ht)
  · exact ht

end SlotLaw

end Sys2Proof.Machine
end

section
/-! The laws of the completion queue and of the calendar, over every step (Sections 1.1, 3.1, 3.3 and 8.1). -/

namespace Sys2Proof.Machine

/-! ### The completion queue (R147) -/

/-- The law reads which slots are COMPLETE, and the queue. -/
theorem State.QueueHolds.of_eq {s t : State} (h : s.QueueHolds)
    (hslot : ∀ n, (t.slot n).isComplete = (s.slot n).isComplete) (hqueue : t.doneQueue = s.doneQueue) :
    t.QueueHolds :=
  ⟨hqueue ▸ h.1, fun n => by rw [hqueue, hslot n]; exact h.2 n⟩

theorem State.QueueHolds.setSlot {s : State} (h : s.QueueHolds) {n : SlotNo} {x : Slot}
    (hx : x.isComplete = (s.slot n).isComplete) : (s.setSlot n x).QueueHolds := by
  refine h.of_eq (fun m => ?_) rfl
  rw [State.slot_setSlot]
  by_cases hm : m = n <;> simp [hm, hx]

theorem Slot.isComplete_of_isUnplaced {x : Slot} (h : x.isUnplaced = true) : x.isComplete = false := by
  cases x <;> simp_all [Slot.isUnplaced, Slot.isComplete]

/-- A slot that leaves its collection for another is not COMPLETE, and leaves slots and queue alone. -/
theorem State.Leaves.queue {s u : State} {n : SlotNo} {h : Held} (leaves : s.Leaves n h u) :
    (s.slot n).isComplete = false ∧ (∀ m, u.slot m = s.slot m) ∧ u.doneQueue = s.doneQueue := by
  cases leaves with
  | scheduled hslot _ => exact ⟨by rw [hslot]; rfl, fun _ => rfl, rfl⟩
  | parked hslot => exact ⟨by rw [hslot]; rfl, fun m => s.slot_unpark n m h, by rw [State.unpark_eq]⟩
  | active hslot _ =>
    exact ⟨by rw [hslot]; rfl, fun m => State.slot_releaseClaims _ h m, by rw [State.releaseClaims_eq]; rfl⟩

theorem State.QueueHolds.complete {s : State} {n : SlotNo} (hs : (s.setSlot n .free).QueueHolds) (h : Held)
    (status : Status) : (s.complete n h status).QueueHolds := by
  obtain ⟨hnodup, hmem⟩ := hs
  have hout : n ∉ s.doneQueue := by
    rw [← s.setSlot_doneQueue n .free, hmem n]
    simp [Slot.isComplete]
  refine ⟨?nodup, fun m => ?mem⟩
  case nodup =>
    exact List.nodup_append.mpr ⟨hnodup, List.nodup_singleton n, fun a ha b hb hab =>
      hout (by rw [List.mem_singleton.mp hb] at hab; exact hab ▸ ha)⟩
  case mem =>
    have hm := hmem m
    rw [State.setSlot_doneQueue, State.slot_setSlot] at hm
    rw [State.slot_complete]
    show m ∈ s.doneQueue ++ [n] ↔ _
    rw [List.mem_append, List.mem_singleton, hm]
    by_cases heq : m = n <;> simp [heq, Slot.isComplete]

theorem queueLaw : SlotLaw False State.QueueHolds where
  unplaced hslot hx hs :=
    hs.setSlot ((Slot.isComplete_of_isUnplaced hx).trans (Slot.isComplete_of_isUnplaced hslot).symm)
  leaves leaves hs := by
    obtain ⟨hslot, hslots, hqueue⟩ := leaves.queue
    refine State.QueueHolds.setSlot (hs.of_eq (fun m => by rw [hslots m]) hqueue) ?_
    rw [hslots, hslot]
    rfl
  enters {s t n h} enters hs := by
    have hrewritten {x : Slot} (hx : x.isComplete = false) : (s.setSlot n x).QueueHolds := by
      have h := hs.setSlot (n := n) (x := x) (by rw [State.slot_setSlot_self]; exact hx)
      rwa [State.setSlot, State.setSlot_slots, Vector.set_set] at h
    cases enters with
    | complete status => exact hs.complete h status
    | scheduled _ _ => exact (hrewritten rfl).of_eq (fun _ => rfl) rfl
    | parked _ =>
      refine (hrewritten (x := .parked h) rfl).of_eq (fun m => ?_) (State.park_doneQueue s n h)
      rw [State.slot_park, State.slot_setSlot]
  group hs := hs.of_eq (fun _ => rfl) rfl

theorem State.QueueHolds.popDone {s : State} (hs : s.QueueHolds) {n : SlotNo} {rest : List SlotNo}
    (hqueue : s.doneQueue = n :: rest) : (s.popDone n rest).QueueHolds := by
  obtain ⟨hnodup, hmem⟩ := hs
  rw [hqueue, List.nodup_cons] at hnodup
  have hcomplete : (s.slot n).isComplete = true := (hmem n).mp (by rw [hqueue]; exact List.mem_cons_self)
  unfold State.popDone
  cases hslot : s.slot n with
  | complete h status time =>
    refine ⟨hnodup.2, fun m => ?_⟩
    have hm := hmem m
    rw [hqueue, List.mem_cons] at hm
    rw [State.slot_setSlot]
    show m ∈ rest ↔ (if m = n then Slot.free else s.slot m).isComplete = true
    by_cases heq : m = n
    · subst heq
      simp [hnodup.1, Slot.isComplete]
    · simpa [heq] using hm
  | _ => rw [hslot] at hcomplete; exact absurd hcomplete Bool.false_ne_true

theorem State.Change.keepsQueue {s t : State} (change : s.Change t) (hs : s.QueueHolds) : t.QueueHolds := by
  cases change with
  | quiet same => exact hs.of_eq (fun n => by rw [same.slot n]) same.doneQueue
  | log | threshold | time | tick | line | channel | clearMeasurements | pend | dropHead =>
    exact hs.of_eq (fun _ => rfl) rfl
  | openInto hfree => exact queueLaw.openInto _ _ hfree hs
  | placePosted hfree => exact queueLaw.place _ (by rw [hfree]; rfl) hs
  | cancelOpen hslot => exact queueLaw.cancelOpen hslot hs
  | move leaves enters => exact queueLaw.move leaves enters False.elim hs
  | @fire e rest old new due hcalendar hslot =>
    refine (hs.setSlot (n := e.slot) (x := .active new e.due s.now e.pastFloor) (by rw [hslot]; rfl)).of_eq (fun m => ?_) ?_
    · rw [State.slot_beginFiring, State.slot_setSlot]; rfl
    · rw [State.beginFiring_eq]; rfl
  | mark hslot => exact hs.setSlot (by rw [hslot]; rfl)
  | commitMembers g cause => exact queueLaw.commitMembers g cause hs
  | discard g => exact queueLaw.discard g hs
  | launch ch trigger =>
    exact queueLaw.launch ch trigger (fun _ ht => ht.of_eq (fun _ => rfl) rfl)
      (fun _ _ _ hslot ht => ht.setSlot (by rw [hslot]; rfl)) hs
  | popDone hqueue => exact hs.popDone hqueue
  | quiesce =>
    exact queueLaw.quiesce (fun t ht => ht.of_eq (fun n => by rw [t.emptyGroups_slot]) t.emptyGroups_doneQueue)
      (fun t ht => ht.of_eq (fun n => by rw [t.idleLines_slot]) t.idleLines_doneQueue)
      (fun _ ht => ht.of_eq (fun _ => rfl) rfl) hs
  | reset =>
    refine ⟨List.nodup_nil, fun n => ?_⟩
    simp [State.reset, State.slot, Vector.get_eq_getElem, Slot.isComplete]

/-- Settles O53: a slot joins the tail of the queue exactly when it becomes COMPLETE, and leaves its head exactly when it
becomes FREE. -/
theorem stepKeepsTheCompletionQueue : Obligations.StepKeepsTheCompletionQueue :=
  fun _ _ hs hstep => step_keeps (fun _ _ => State.Change.keepsQueue) hs hstep

end Sys2Proof.Machine
end

section
/-! The calendar over every step (Chapter 3): the entries of each slot, their order by distance, and the counts of ticks
beyond -2^31. -/

namespace Sys2Proof.Machine

/-! ### The entries of each slot (R1, R36, R44) -/

/-- The phase and due time of each entry of slot `n`, in calendar order. -/
def entriesOf (calendar : List Entry) (n : SlotNo) : List (Phase × Tick) :=
  (calendar.filter (fun e => e.slot == n)).map (fun e => (e.phase, e.due))

/-- The law reads the entries that each slot's state gives it, and the entries that the calendar holds for it. -/
theorem State.CalendarHolds.of_eq {s t : State} (h : s.CalendarHolds)
    (hslot : ∀ n, (t.slot n).entries = (s.slot n).entries)
    (hcalendar : ∀ n, entriesOf t.calendar n = entriesOf s.calendar n) : t.CalendarHolds :=
  fun n => ((hcalendar n).trans (h n)).trans (hslot n).symm

theorem State.CalendarHolds.setSlot {s : State} (h : s.CalendarHolds) {n : SlotNo} {x : Slot}
    (hx : x.entries = (s.slot n).entries) : (s.setSlot n x).CalendarHolds := by
  refine h.of_eq (fun m => ?_) fun _ => rfl
  rw [State.slot_setSlot]
  by_cases hm : m = n <;> simp [hm, hx]

theorem Slot.entries_of_isUnplaced {x : Slot} (h : x.isUnplaced = true) : x.entries = [] := by
  cases x <;> simp_all [Slot.isUnplaced, Slot.entries]

/-- A slot has at most one entry. -/
theorem Slot.entries_eq_nil_or_singleton (x : Slot) : x.entries = [] ∨ ∃ p, x.entries = [p] := by
  cases x <;> simp [Slot.entries]

theorem entriesOf_cons (e : Entry) (rest : List Entry) (n : SlotNo) :
    entriesOf (e :: rest) n = if e.slot = n then (e.phase, e.due) :: entriesOf rest n else entriesOf rest n := by
  by_cases h : e.slot = n <;> simp [entriesOf, h]

/-- The calendar without the entry of slot `n`: none is left for `n`, and those of the other slots stand. -/
theorem State.WithoutEntry.entriesOf_eq {s : State} {n : SlotNo} {calendar : List Entry}
    (without : s.WithoutEntry n calendar) (hs : s.CalendarHolds) (m : SlotNo) :
    entriesOf calendar m = if m = n then [] else entriesOf s.calendar m := by
  cases without with
  | withdrawn =>
    by_cases hm : m = n
    · simp [entriesOf, List.filter_filter, hm]
    · rw [if_neg hm]
      simp only [entriesOf, List.filter_filter]
      congr 1
      refine List.filter_congr fun e _ => ?_
      by_cases he : e.slot = m <;> simp [he, hm]
  | @released e rest hcalendar hslot =>
    rw [hcalendar, entriesOf_cons, hslot]
    by_cases hm : m = n
    · subst hm
      have hhere : entriesOf s.calendar m = (s.slot m).entries := hs m
      rw [hcalendar, entriesOf_cons, if_pos hslot] at hhere
      rw [if_pos rfl]
      rcases (s.slot m).entries_eq_nil_or_singleton with hnone | ⟨p, hone⟩
      · rw [hnone] at hhere; cases hhere
      · rw [hone] at hhere; exact (List.cons.inj hhere).2
    · rw [if_neg hm, if_neg (Ne.symm hm)]

/-- A new entry of a slot that has none is then its one entry. -/
theorem entriesOf_insertEntry (now : Tick) (new : Entry) (calendar : List Entry)
    (hnone : entriesOf calendar new.slot = []) (m : SlotNo) :
    entriesOf (insertEntry now new calendar) m
      = if m = new.slot then [(new.phase, new.due)] else entriesOf calendar m := by
  by_cases hm : m = new.slot
  · have hhere : calendar.filter (fun e => e.slot == new.slot) = [] := List.map_eq_nil_iff.mp hnone
    rw [if_pos hm, hm, entriesOf,
      filter_insertEntry_of_true now new calendar (fun e => e.slot == new.slot) (beq_self_eq_true _) hhere]
    rfl
  · have hother : (new.slot == m) = false := beq_eq_false_iff_ne.mpr (Ne.symm hm)
    rw [if_neg hm, entriesOf, filter_insertEntry_of_false now new calendar (fun e => e.slot == m) hother]
    rfl

/-- A free slot that gets an entry with its new record. -/
theorem State.CalendarHolds.enter {s t : State} {n : SlotNo} {x : Slot} {phase : Phase} {due : Tick} {past : Nat}
    (hs : (s.setSlot n .free).CalendarHolds) (hx : x.entries = [(phase, due)])
    (hslot : ∀ m, t.slot m = if m = n then x else s.slot m)
    (hcalendar : t.calendar = insertEntry s.now ⟨n, phase, due, past⟩ s.calendar) : t.CalendarHolds := by
  have hnone : entriesOf s.calendar n = [] := by
    have h := hs n
    rwa [State.slot_setSlot_self] at h
  intro m
  show entriesOf t.calendar m = _
  rw [hcalendar, entriesOf_insertEntry _ ⟨n, phase, due, past⟩ _ hnone, hslot]
  by_cases hm : m = n
  · rw [if_pos hm, if_pos hm, hx]
  · rw [if_neg hm, if_neg hm]
    have h := hs m
    rwa [State.slot_setSlot, if_neg hm] at h

theorem State.Leaves.calendarHolds {s u : State} {n : SlotNo} {h : Held} (leaves : s.Leaves n h u)
    (hs : s.CalendarHolds) : (u.setSlot n .free).CalendarHolds := by
  have hremoved {calendar : List Entry} (without : s.WithoutEntry n calendar) :
      ((s.setCalendar calendar).setSlot n .free).CalendarHolds := by
    intro m
    have hm := (without.entriesOf_eq hs m).trans (congrArg (ite (m = n) []) (hs m))
    refine hm.trans ?_
    rw [State.slot_setSlot]
    by_cases heq : m = n <;> simp [heq, Slot.entries]
  cases leaves with
  | scheduled _ without => exact hremoved without
  | parked hslot =>
    refine State.CalendarHolds.setSlot (hs.of_eq (fun m => by rw [State.slot_unpark]) fun m => ?_) ?_
    · rw [State.unpark_eq]
    · rw [State.slot_unpark, hslot]; rfl
  | active _ without =>
    refine (hremoved without).of_eq (fun m => ?_) fun m => ?_
    · rw [State.slot_setSlot, State.slot_setSlot, State.slot_releaseClaims]
    · rw [State.releaseClaims_eq]; rfl

theorem calendarLaw : SlotLaw False State.CalendarHolds where
  unplaced hslot hx hs := hs.setSlot ((Slot.entries_of_isUnplaced hx).trans (Slot.entries_of_isUnplaced hslot).symm)
  leaves leaves hs := leaves.calendarHolds hs
  enters {s t n h} enters hs := by
    cases enters with
    | complete status =>
      refine (hs.setSlot (n := n) (x := .complete h status s.now) (by rw [State.slot_setSlot_self]; rfl)).of_eq
        (fun m => ?_) fun _ => rfl
      rw [State.slot_complete, State.slot_setSlot, State.slot_setSlot]
      by_cases hm : m = n <;> simp [hm]
    | scheduled _ _ => exact hs.enter rfl (fun m => s.slot_setSlot n m _) rfl
    | parked _ =>
      refine (hs.setSlot (n := n) (x := .parked h) (by rw [State.slot_setSlot_self]; rfl)).of_eq (fun m => ?_) fun _ => ?_
      · rw [State.slot_park, State.slot_setSlot, State.slot_setSlot]
        by_cases hm : m = n <;> simp [hm]
      · rw [State.park_calendar]; rfl
  group hs := hs.of_eq (fun _ => rfl) fun _ => rfl

theorem State.popDone_slot_calendar (s : State) (n : SlotNo) (rest : List SlotNo) :
    (∃ h status time, s.slot n = .complete h status time ∧ (∀ m, (s.popDone n rest).slot m = if m = n then .free else s.slot m)) ∨
      ∀ m, (s.popDone n rest).slot m = s.slot m := by
  unfold State.popDone
  cases hslot : s.slot n with
  | complete h status time => exact .inl ⟨h, status, time, rfl, fun m => State.slot_setSlot _ n m _⟩
  | _ => exact .inr fun _ => rfl

theorem State.popDone_calendar (s : State) (n : SlotNo) (rest : List SlotNo) :
    (s.popDone n rest).calendar = s.calendar ∧ (s.popDone n rest).now = s.now := by
  unfold State.popDone
  split <;> exact ⟨rfl, rfl⟩

theorem Entry.overAdvance_eq (now : Tick) (e : Entry) :
    (e.overAdvance now).slot = e.slot ∧ (e.overAdvance now).phase = e.phase ∧ (e.overAdvance now).due = e.due := by
  unfold Entry.overAdvance
  split <;> exact ⟨rfl, rfl, rfl⟩

theorem entriesOf_overAdvance (now : Tick) (calendar : List Entry) (n : SlotNo) :
    entriesOf (calendar.map (Entry.overAdvance now)) n = entriesOf calendar n := by
  have hkept (e : Entry) := e.overAdvance_eq now
  simp only [entriesOf, List.filter_map, List.map_map]
  congr 1
  · funext e
    simp only [Function.comp_apply, (hkept e).2.1, (hkept e).2.2]
  · exact List.filter_congr fun e _ => by simp only [Function.comp_apply, (hkept e).1]

theorem State.Change.keepsCalendar {s t : State} (change : s.Change t) (hs : s.CalendarHolds) : t.CalendarHolds := by
  cases change with
  | quiet same => exact hs.of_eq (fun n => by rw [same.slot n]) fun n => by rw [same.calendar]
  | log | threshold | time | line | channel | clearMeasurements | pend => exact hs.of_eq (fun _ => rfl) fun _ => rfl
  | tick => exact hs.of_eq (fun _ => rfl) fun n => entriesOf_overAdvance _ _ n
  | openInto hfree => exact calendarLaw.openInto _ _ hfree hs
  | placePosted hfree => exact calendarLaw.place _ (by rw [hfree]; rfl) hs
  | cancelOpen hslot => exact calendarLaw.cancelOpen hslot hs
  | move leaves enters => exact calendarLaw.move leaves enters False.elim hs
  | fire hcalendar hslot =>
    have hfreed := (State.Leaves.scheduled hslot (.released hcalendar rfl)).calendarHolds hs
    refine hfreed.enter (past := 0) rfl (State.slot_beginFiring _ _ _) ?_
    rw [State.beginFiring_eq]
  | mark hslot => exact hs.setSlot (by rw [hslot]; rfl)
  | commitMembers g cause => exact calendarLaw.commitMembers g cause hs
  | discard g => exact calendarLaw.discard g hs
  | launch ch trigger =>
    exact calendarLaw.launch ch trigger (fun _ ht => ht.of_eq (fun _ => rfl) fun _ => rfl)
      (fun _ _ _ hslot ht => ht.setSlot (by rw [hslot]; rfl)) hs
  | @popDone n rest hqueue =>
    refine hs.of_eq (fun m => ?_) fun m => by rw [(s.popDone_calendar n rest).1]
    rcases s.popDone_slot_calendar n rest with ⟨h, status, time, hslot, hslots⟩ | hslots <;> rw [hslots]
    by_cases hm : m = n <;> simp [hm, hslot, Slot.entries]
  | @dropHead e rest hcalendar hentries =>
    have hhead : entriesOf s.calendar e.slot = (s.slot e.slot).entries := hs e.slot
    rw [hcalendar, entriesOf_cons, if_pos rfl] at hhead
    exact absurd rfl (hentries (e.phase, e.due) (hhead ▸ List.mem_cons_self))
  | quiesce =>
    exact calendarLaw.quiesce
      (fun t ht => ht.of_eq (fun n => by rw [t.emptyGroups_slot]) fun n => by rw [t.emptyGroups_calendar])
      (fun t ht => ht.of_eq (fun n => by rw [t.idleLines_slot]) fun n => by rw [t.idleLines_calendar])
      (fun _ ht => ht.of_eq (fun _ => rfl) fun _ => rfl) hs
  | reset => intro n; simp [State.reset, State.slot, Vector.get_eq_getElem, Slot.entries]

/-- Settles O54: a slot gets its one entry with the state that asks for it, and loses it when it leaves that state. -/
theorem stepKeepsTheCalendarEntries : Obligations.StepKeepsTheCalendarEntries :=
  fun _ _ hs hstep => step_keeps (fun _ _ => State.Change.keepsCalendar) hs hstep

/-! ### The order by distance (R37, R39, R52) -/

/-- The place of an insertion, in a calendar in order (R39). -/
theorem insertEntry_split (now : Tick) (new : Entry) (entries : List Entry)
    (hordered : entries.Pairwise (fun a b => a.distance now ≤ b.distance now)) :
    ∃ before after : List Entry,
      entries = before ++ after ∧ insertEntry now new entries = before ++ new :: after ∧
      (∀ e ∈ before, e.distance now ≤ new.distance now) ∧ (∀ e ∈ after, new.distance now < e.distance now) := by
  induction entries with
  | nil => exact ⟨[], [], rfl, rfl, by simp, by simp⟩
  | cons d rest ih =>
    obtain ⟨hhead, hrest⟩ := List.pairwise_cons.mp hordered
    by_cases hd : d.distance now ≤ new.distance now
    · obtain ⟨before, after, heq, hinserted, hbefore, hafter⟩ := ih hrest
      refine ⟨d :: before, after, by rw [heq]; rfl, by rw [insertEntry, if_pos hd, hinserted]; rfl, ?_, hafter⟩
      exact List.forall_mem_cons.mpr ⟨hd, hbefore⟩
    · refine ⟨[], d :: rest, rfl, by rw [insertEntry, if_neg hd]; rfl, by simp, ?_⟩
      have hlt := not_le.mp hd
      exact List.forall_mem_cons.mpr ⟨hlt, fun e he => lt_of_lt_of_le hlt (hhead e he)⟩

/-- Settles O39: by induction on the calendar, whose order puts every entry after a greater one at a greater distance. -/
theorem insertionOrder : Obligations.InsertionOrder := insertEntry_split

theorem pairwise_insertEntry {now : Tick} (new : Entry) {entries : List Entry}
    (hordered : entries.Pairwise (fun a b => a.distance now ≤ b.distance now)) :
    (insertEntry now new entries).Pairwise (fun a b => a.distance now ≤ b.distance now) := by
  obtain ⟨before, after, rfl, hinserted, hbefore, hafter⟩ := insertEntry_split now new entries hordered
  obtain ⟨hfirst, hlast, hcross⟩ := List.pairwise_append.mp hordered
  rw [hinserted, List.pairwise_append, List.pairwise_cons]
  exact ⟨hfirst, ⟨fun e he => le_of_lt (hafter e he), hlast⟩,
    fun a ha => List.forall_mem_cons.mpr ⟨hbefore a ha, hcross a ha⟩⟩

theorem State.CalendarOrdered.of_sublist {s t : State} (h : s.CalendarOrdered) (hnow : t.now = s.now)
    (hcalendar : t.calendar.Sublist s.calendar) : t.CalendarOrdered := by
  show t.calendar.Pairwise (fun a b => a.distance t.now ≤ b.distance t.now)
  rw [hnow]
  exact h.sublist hcalendar

theorem State.CalendarOrdered.of_eq {s t : State} (h : s.CalendarOrdered) (hnow : t.now = s.now)
    (hcalendar : t.calendar = s.calendar) : t.CalendarOrdered :=
  h.of_sublist hnow (by rw [hcalendar])

theorem State.WithoutEntry.sublist {s : State} {n : SlotNo} {calendar : List Entry}
    (without : s.WithoutEntry n calendar) : calendar.Sublist s.calendar := by
  cases without with
  | withdrawn => exact List.filter_sublist
  | released hcalendar _ => rw [hcalendar]; exact List.sublist_cons_self _ _

/-- A slot that leaves its collection takes no more than its entry from the calendar, at one value of the timebase. -/
theorem State.Leaves.calendar {s u : State} {n : SlotNo} {h : Held} (leaves : s.Leaves n h u) :
    u.calendar.Sublist s.calendar ∧ u.now = s.now := by
  cases leaves with
  | scheduled _ without => exact ⟨without.sublist, rfl⟩
  | parked _ => rw [State.unpark_eq]; exact ⟨List.Sublist.refl _, rfl⟩
  | active _ without => rw [State.releaseClaims_eq]; exact ⟨without.sublist, rfl⟩

theorem orderLaw : SlotLaw False State.CalendarOrdered where
  unplaced _ _ hs := hs
  leaves leaves hs := by
    obtain ⟨hcalendar, hnow⟩ := leaves.calendar
    exact hs.of_sublist hnow hcalendar
  enters {s t n h} enters hs := by
    cases enters with
    | complete _ => exact hs
    | scheduled _ _ => exact pairwise_insertEntry _ hs
    | parked _ => exact hs.of_eq (s.park_now n h) (s.park_calendar n h)
  group hs := hs

/-- The distance of an entry after an advance: one tick closer, and held at -2^31 (R52). -/
theorem Entry.distance_overAdvance (now : Tick) (e : Entry) :
    (e.overAdvance now).distance (now + 1) = max (e.distance now - 1) Config.lowestDistance := by
  have hlow : ∀ t, Config.lowestDistance ≤ Machine.distance now t := fun t => BitVec.le_toInt (t - now)
  unfold Entry.overAdvance
  split
  · rename_i hfloor
    rw [Entry.distance_of_pos _ _ (Nat.succ_pos _), hfloor]
    omega
  · rename_i hfloor
    have hzero : e.pastFloor = 0 := by
      by_contra hne
      exact hfloor (e.distance_of_pos now (Nat.pos_of_ne_zero hne))
    rw [e.distance_of_zero now hzero] at hfloor ⊢
    have hge := hlow e.due
    rw [e.distance_of_zero _ hzero, distance_add_one now e.due hfloor, max_eq_left (by omega)]

theorem State.CalendarOrdered.advanceTime {s : State} (hs : s.CalendarOrdered) : s.advanceTime.CalendarOrdered := by
  refine List.pairwise_map.mpr (List.Pairwise.imp (fun {a b} hab => ?_) hs)
  show (a.overAdvance s.now).distance (s.now + 1) ≤ (b.overAdvance s.now).distance (s.now + 1)
  rw [Entry.distance_overAdvance, Entry.distance_overAdvance]
  omega

theorem State.Change.keepsOrder {s t : State} (change : s.Change t) (hs : s.CalendarOrdered) : t.CalendarOrdered := by
  cases change with
  | quiet same => exact hs.of_eq same.now same.calendar
  | log | threshold | line | channel | clearMeasurements | pend | mark => exact hs
  | time hvalue =>
    rcases hvalue with hvalue | hempty
    · exact hs.of_eq hvalue rfl
    · show s.calendar.Pairwise _
      rw [hempty]
      exact List.Pairwise.nil
  | tick => exact hs.advanceTime
  | openInto hfree => exact orderLaw.openInto _ _ hfree hs
  | placePosted hfree => exact orderLaw.place _ (by rw [hfree]; rfl) hs
  | cancelOpen hslot => exact orderLaw.cancelOpen hslot hs
  | move leaves enters => exact orderLaw.move leaves enters False.elim hs
  | @fire e rest old new due hcalendar hslot =>
    have hrest : (s.setCalendar rest).CalendarOrdered :=
      hs.of_sublist rfl (by rw [hcalendar]; exact List.sublist_cons_self _ _)
    rw [State.beginFiring_eq]
    exact pairwise_insertEntry _ hrest
  | commitMembers g cause => exact orderLaw.commitMembers g cause hs
  | discard g => exact orderLaw.discard g hs
  | launch ch trigger => exact orderLaw.launch ch trigger (fun _ ht => ht) (fun _ _ _ _ ht => ht) hs
  | @popDone n rest hqueue =>
    obtain ⟨hcalendar, hnow⟩ := s.popDone_calendar n rest
    exact hs.of_eq hnow hcalendar
  | dropHead hcalendar => exact hs.of_sublist rfl (by rw [hcalendar]; exact List.sublist_cons_self _ _)
  | quiesce =>
    exact orderLaw.quiesce
      (fun t ht => ht.of_eq t.emptyGroups_now t.emptyGroups_calendar)
      (fun t ht => ht.of_eq t.idleLines_now t.idleLines_calendar)
      (fun t ht => ht.of_eq rfl rfl) hs
  | reset => exact List.Pairwise.nil

/-! ### The counts of ticks beyond -2^31 (log 10) -/

theorem State.PastFloorsHold.of_eq {s t : State} (h : s.PastFloorsHold) (hnow : t.now = s.now)
    (hcalendar : ∀ e ∈ t.calendar, e ∈ s.calendar) (hslot : ∀ n, (t.slot n).leadPastFits = (s.slot n).leadPastFits) :
    t.PastFloorsHold :=
  ⟨fun e he hne => by rw [hnow]; exact h.1 e (hcalendar e he) hne, fun n => by rw [hslot n]; exact h.2 n⟩

/-- A slot that is rewritten with a true count, and with it an entry with a true count. -/
theorem State.PastFloorsHold.enter {s t : State} {n : SlotNo} {x : Slot} {new : Entry}
    (hs : (s.setSlot n .free).PastFloorsHold) (hx : x.leadPastFits = true) (hnow : t.now = s.now)
    (hslot : ∀ m, t.slot m = if m = n then x else s.slot m)
    (hcalendar : ∀ e ∈ t.calendar, e = new ∨ e ∈ s.calendar) (hnew : PastTrue s.now new.due new.pastFloor) :
    t.PastFloorsHold := by
  refine ⟨fun e he hne => ?_, fun m => ?_⟩
  · rw [hnow]
    rcases hcalendar e he with rfl | hold
    · exact hnew hne
    · exact hs.1 e hold hne
  · rw [hslot]
    split
    · exact hx
    · have h := hs.2 m
      rwa [State.slot_setSlot, if_neg ‹_›] at h

theorem State.PastFloorsHold.setSlot {s : State} (hs : s.PastFloorsHold) {n : SlotNo} {x : Slot}
    (hx : x.leadPastFits = true) : (s.setSlot n x).PastFloorsHold := by
  refine ⟨hs.1, fun m => ?_⟩
  rw [State.slot_setSlot]
  split
  · exact hx
  · exact hs.2 m

theorem Slot.leadPastFits_of_isUnplaced {x : Slot} (h : x.isUnplaced = true) : x.leadPastFits = true := by
  cases x <;> simp_all [Slot.isUnplaced, Slot.leadPastFits]

theorem pastLaw : SlotLaw True State.PastFloorsHold where
  unplaced _ hx hs := hs.setSlot (Slot.leadPastFits_of_isUnplaced hx)
  leaves leaves hs := by
    obtain ⟨hcalendar, hnow⟩ := leaves.calendar
    obtain ⟨-, hslots, -⟩ := leaves.queue
    exact (hs.of_eq hnow hcalendar.subset fun m => by rw [hslots m]).setSlot rfl
  enters {s t n h} enters hs := by
    cases enters with
    | complete status =>
      refine (hs.setSlot (n := n) (x := .complete h status s.now) rfl).of_eq rfl (fun _ he => he) fun m => ?_
      rw [State.slot_complete, State.slot_setSlot, State.slot_setSlot]
      by_cases hm : m = n <;> simp [hm]
    | scheduled _ hpast =>
      exact hs.enter rfl rfl (fun m => s.slot_setSlot n m _) (fun e he => (mem_insertEntry _ _ e _).mp he) (hpast trivial)
    | parked _ =>
      refine (hs.setSlot (n := n) (x := .parked h) rfl).of_eq (s.park_now n h)
        (fun e he => by rw [State.park_calendar] at he; exact he) fun m => ?_
      rw [State.slot_park, State.slot_setSlot, State.slot_setSlot]
      by_cases hm : m = n <;> simp [hm]
  group hs := hs.of_eq rfl (fun _ he => he) fun _ => rfl

/-- An entry that the advance holds at -2^31 lies one tick further beyond (R52). -/
theorem Entry.pastTrue_overAdvance {now : Tick} {e : Entry} (h : PastTrue now e.due e.pastFloor) :
    PastTrue (now + 1) (e.overAdvance now).due (e.overAdvance now).pastFloor := by
  have hsub : now + 1 - e.due = (now - e.due) + 1 := by ring
  unfold Entry.overAdvance
  split
  · rename_i hfloor
    intro _
    show now + 1 - e.due = BitVec.ofNat 32 (2147483648 + (e.pastFloor + 1))
    have hbase : now - e.due = BitVec.ofNat 32 (2147483648 + e.pastFloor) := by
      by_cases hzero : e.pastFloor = 0
      · rw [e.distance_of_zero now hzero, Machine.distance, Config.lowestDistance] at hfloor
        have hdue : e.due - now = BitVec.ofNat 32 2147483648 := by
          apply BitVec.eq_of_toInt_eq
          rw [hfloor]
          rfl
        calc now - e.due = -(e.due - now) := by ring
          _ = BitVec.ofNat 32 (2147483648 + e.pastFloor) := by rw [hdue, hzero]; rfl
      · exact h hzero
    rw [hsub, hbase, ← Nat.add_assoc]
    exact (BitVec.ofNat_add (2147483648 + e.pastFloor) 1).symm
  · rename_i hfloor
    intro hne
    exact absurd (e.distance_of_pos now (Nat.pos_of_ne_zero hne)) hfloor

theorem State.PastFloorsHold.advanceTime {s : State} (hs : s.PastFloorsHold) : s.advanceTime.PastFloorsHold := by
  refine ⟨fun e he => ?_, hs.2⟩
  obtain ⟨d, hd, rfl⟩ := List.mem_map.mp he
  exact Entry.pastTrue_overAdvance (hs.1 d hd)

theorem State.Change.keepsPastFloors {s t : State} (change : s.Change t) (hcal : s.CalendarHolds)
    (hs : s.PastFloorsHold) : t.PastFloorsHold := by
  cases change with
  | quiet same =>
    exact hs.of_eq same.now (fun e he => by rw [same.calendar] at he; exact he) fun n => by rw [same.slot n]
  | log | threshold | line | channel | clearMeasurements | pend =>
    exact hs.of_eq rfl (fun _ he => he) fun _ => rfl
  | time hvalue =>
    rcases hvalue with hvalue | hempty
    · exact hs.of_eq hvalue (fun _ he => he) fun _ => rfl
    · refine ⟨fun e he => ?_, hs.2⟩
      rw [State.setTimebase_calendar, hempty] at he
      cases he
  | tick => exact hs.advanceTime
  | openInto hfree => exact pastLaw.openInto _ _ hfree hs
  | placePosted hfree => exact pastLaw.place _ (by rw [hfree]; rfl) hs
  | cancelOpen hslot => exact pastLaw.cancelOpen hslot hs
  | move leaves enters => exact pastLaw.move leaves enters (fun _ => ⟨hcal, hs⟩) hs
  | @fire e rest old new due hcalendar hslot =>
    have hfreed := pastLaw.leaves (State.Leaves.scheduled hslot (.released hcalendar rfl)) hs
    have hlead : (Slot.active new e.due s.now e.pastFloor).leadPastFits = true := by
      have h := hs.1 e (by rw [hcalendar]; exact List.mem_cons_self)
      by_cases hzero : e.pastFloor = 0
      · simp [Slot.leadPastFits, hzero]
      · simp [Slot.leadPastFits, h hzero]
    rw [State.beginFiring_eq]
    exact hfreed.enter hlead rfl (fun m => State.slot_setSlot _ _ m _) (fun d hd => (mem_insertEntry _ _ d _).mp hd)
      fun hne => absurd rfl hne
  | @mark n h a b p hslot => exact hs.setSlot (by have h := hs.2 n; rwa [hslot] at h)
  | commitMembers g cause => exact pastLaw.commitMembers g cause hs
  | discard g => exact pastLaw.discard g hs
  | launch ch trigger =>
    exact pastLaw.launch ch trigger (fun _ ht => ht.of_eq rfl (fun _ he => he) fun _ => rfl)
      (fun _ _ _ _ ht => ht.setSlot rfl) hs
  | @popDone n rest hqueue =>
    obtain ⟨hcalendar, hnow⟩ := s.popDone_calendar n rest
    refine hs.of_eq hnow (fun e he => hcalendar ▸ he) fun m => ?_
    rcases s.popDone_slot_calendar n rest with ⟨h, status, time, hslot, hslots⟩ | hslots <;> rw [hslots]
    by_cases hm : m = n <;> simp [hm, hslot, Slot.leadPastFits]
  | dropHead hcalendar =>
    exact hs.of_eq rfl (fun e he => by rw [hcalendar]; exact List.mem_cons_of_mem _ he) fun _ => rfl
  | quiesce =>
    exact pastLaw.quiesce
      (fun t ht => ht.of_eq t.emptyGroups_now (fun e he => t.emptyGroups_calendar ▸ he) fun n => by rw [t.emptyGroups_slot])
      (fun t ht => ht.of_eq t.idleLines_now (fun e he => t.idleLines_calendar ▸ he) fun n => by rw [t.idleLines_slot])
      (fun t ht => ht.of_eq rfl (fun _ he => he) fun _ => rfl) hs
  | reset =>
    refine ⟨fun e he => absurd he List.not_mem_nil, fun n => ?_⟩
    simp [State.reset, State.slot, Vector.get_eq_getElem, Slot.leadPastFits]

/-- Settles O55: an insertion keeps the order, an advance moves every entry by the same tick but those held at -2^31, and
with the calendar's entries the count of a re-arm is the one of its base. -/
theorem stepKeepsTheCalendarOrder : Obligations.StepKeepsTheCalendarOrder := by
  refine ⟨fun _ _ hs hstep => step_keeps (fun _ _ => State.Change.keepsOrder) hs hstep, fun s t hcal hpast hstep => ?_⟩
  have hboth : t.CalendarHolds ∧ t.PastFloorsHold :=
    step_keeps (P := fun u => u.CalendarHolds ∧ u.PastFloorsHold)
      (fun _ _ change hu => ⟨change.keepsCalendar hu.1, change.keepsPastFloors hu.1 hu.2⟩) ⟨hcal, hpast⟩ hstep
  exact hboth.2

end Sys2Proof.Machine
end

section
/-! What each slot holds, over every step (Section 1.2): the laws on single slots, that the actions are well formed and that
remaining fits its count. -/

namespace Sys2Proof.Machine

/-- A law on each slot by itself: kept by a slot that is freed or posted, and by one that goes on with the same action and
with remaining within its count. -/
structure SlotValueLaw (V : Slot → Prop) : Prop where
  free : V .free
  posted : ∀ {a : Action}, a.wellFormed = true → V (.opened a.posted)
  complete : ∀ {x : Slot} {old new : Held} {status : Status} {time : Tick}, V x → x.held? = some old →
    new.action = old.action → (x.remainingFits = true → new.remaining.toNat ≤ new.action.count.toNat) →
    V (.complete new status time)
  active : ∀ {x : Slot} {old new : Held} {leadDue leadTime : Tick} {leadPast : Nat}, V x → x.held? = some old →
    new.action = old.action → (x.remainingFits = true → new.remaining.toNat ≤ new.action.count.toNat) →
    V (.active new leadDue leadTime leadPast)
  scheduled : ∀ {x : Slot} {old new : Held} {due : Tick}, V x → x.held? = some old →
    new.action = old.action → (x.remainingFits = true → new.remaining.toNat ≤ new.action.count.toNat) →
    new.action.count = 0 ∨ new.remaining ≠ 0 → V (.scheduled new due)
  parked : ∀ {x : Slot} {old new : Held}, V x → x.held? = some old → new.action = old.action →
    new.remaining = new.action.count → V (.parked new)

namespace SlotValueLaw

variable {V : Slot → Prop} (law : SlotValueLaw V)
include law

theorem placedAt {x : Slot} {h : Held} (now : Tick) (hx : V x) (hheld : x.held? = some h) : V (h.placedAt now) := by
  have hleft : h.action.count = 0 ∨ h.action.count ≠ 0 := eq_or_ne _ _
  unfold Held.placedAt
  cases h.action.mode with
  | abs | rel => exact law.scheduled hx hheld rfl (fun _ => Nat.le_refl _) hleft
  | trig => exact law.parked hx hheld rfl rfl

theorem placed {x : Slot} (now : Tick) (hx : V x) : V (x.placed now) := by
  cases x with
  | opened h => exact law.placedAt now hx rfl
  | _ => exact hx

theorem launched {x : Slot} (trigger : Tick) (hx : V x) : V (x.launched trigger) := by
  cases x with
  | parked h =>
    have hleft : h.action.count = 0 ∨ h.action.count ≠ 0 := eq_or_ne _ _
    exact law.scheduled (new := h.reloaded) hx rfl rfl (fun _ => Nat.le_refl _) hleft
  | _ => exact hx

theorem quiesced {x : Slot} (now : Tick) (hx : V x) : V (x.quiesced now) := by
  cases x with
  | opened h => exact law.free
  | scheduled h due => exact law.complete hx rfl rfl fun hfits => Slot.remaining_le_of_fits rfl hfits
  | parked h => exact law.complete hx rfl rfl fun hfits => Slot.remaining_le_of_fits rfl hfits
  | active h a b p => exact law.complete hx rfl rfl fun hfits => Slot.remaining_le_of_fits rfl hfits
  | _ => exact hx

omit law in
/-- A slot rewritten with a lawful record. -/
theorem rewritten {s t : State} {n : SlotNo} {x : Slot} (hs : ∀ m, V (s.slot m)) (hx : V x)
    (hslot : ∀ m, t.slot m = if m = n then x else s.slot m) : ∀ m, V (t.slot m) := by
  intro m
  rw [hslot]
  split
  · exact hx
  · exact hs m

theorem keeps {s t : State} (change : s.Change t) (hs : ∀ n, V (s.slot n)) : ∀ n, V (t.slot n) := by
  cases change with
  | quiet same => exact fun n => same.slot n ▸ hs n
  | log | threshold | time | tick | line | channel | clearMeasurements | pend | dropHead => exact hs
  | openInto hfree hformed => exact rewritten hs (law.posted hformed) (s.slot_setSlot _ · _)
  | placePosted hfree hformed =>
    exact rewritten hs (law.placedAt s.now (law.posted hformed) rfl) (s.slot_place _ · _)
  | @cancelOpen n h hslot =>
    refine rewritten (n := n) hs law.free fun m => ?_
    unfold State.cancelOpen
    cases h.action.group <;> exact s.slot_setSlot n m _
  | @move n old new u t leaves enters haction hremaining =>
    obtain ⟨-, hslots, -⟩ := leaves.queue
    have hrewritten {x : Slot} (hx : V x) (hslot : ∀ m, t.slot m = if m = n then x else u.slot m) : ∀ m, V (t.slot m) :=
      rewritten hs hx fun m => by rw [hslot m, hslots m]
    cases enters with
    | complete status =>
      exact hrewritten (law.complete (hs n) leaves.held haction hremaining) fun m => u.slot_complete n m new status
    | scheduled hleft _ =>
      exact hrewritten (law.scheduled (hs n) leaves.held haction hremaining hleft) (u.slot_setSlot n · _)
    | parked hloaded => exact hrewritten (law.parked (hs n) leaves.held haction hloaded) (u.slot_park n · new)
  | fire hcalendar hslot haction hremaining =>
    exact rewritten hs (law.active (hs _) (by rw [hslot]; rfl) haction hremaining) (State.slot_beginFiring _ _ _)
  | @mark n h a b p hslot =>
    refine rewritten hs (law.active (old := h) (new := { h with supersedePending := true }) (hs n) (by rw [hslot]; rfl) rfl
      fun hfits => ?_) (s.slot_setSlot n · _)
    exact Slot.remaining_le_of_fits (h := h) (by rw [hslot]; rfl) hfits
  | commitMembers g cause =>
    intro n
    rw [State.commitMembers, State.closeCommit, State.setGroup_slot, State.slot_placeMembers]
    split
    · exact law.placed s.now (hs n)
    · exact hs n
  | discard g =>
    intro n
    rw [State.setGroup_slot, State.slot_freeOpens]
    split
    · exact law.free
    · exact hs n
  | launch ch trigger =>
    intro n
    rw [State.slot_launch]
    split
    · exact law.launched trigger (hs n)
    · exact hs n
  | @popDone n rest hqueue =>
    rcases s.popDone_slot_calendar n rest with ⟨h, status, time, -, hslots⟩ | hslots
    · exact rewritten hs law.free hslots
    · exact fun m => hslots m ▸ hs m
  | quiesce => exact fun n => s.slot_quiesced n ▸ law.quiesced s.now (hs n)
  | reset =>
    intro n
    have hreset : State.reset.slot n = .free := by simp [State.reset, State.slot, Vector.get_eq_getElem]
    rw [hreset]
    exact law.free

end SlotValueLaw

/-- An action is written at the POST and kept until the slot is FREE (R2, R3). -/
theorem actionLaw : SlotValueLaw (fun x => ∀ h ∈ x.held?, h.action.wellFormed = true) where
  free _ hh := nomatch hh
  posted := by
    rintro a ha _ ⟨⟩
    exact ha
  complete := by
    rintro x old new status time hx hold haction - _ ⟨⟩
    exact haction ▸ hx old hold
  active := by
    rintro x old new a b p hx hold haction - _ ⟨⟩
    exact haction ▸ hx old hold
  scheduled := by
    rintro x old new due hx hold haction - - _ ⟨⟩
    exact haction ▸ hx old hold
  parked := by
    rintro x old new hx hold haction - _ ⟨⟩
    exact haction ▸ hx old hold

/-- Remaining is loaded with count, counts down while it is not 0, and stays within count (R4). -/
theorem remainingLaw : SlotValueLaw (fun x => x.remainingFits = true) where
  free := rfl
  posted {a} _ := by
    simpa [Slot.remainingFits, Action.posted] using eq_or_ne a.count 0
  complete hx _ _ hremaining := by simp [Slot.remainingFits, hremaining hx]
  active hx _ _ hremaining := by simp [Slot.remainingFits, hremaining hx]
  scheduled hx _ _ hremaining hleft := by simpa [Slot.remainingFits, hremaining hx] using hleft
  parked {x old new} _ _ _ hloaded := by
    simpa [Slot.remainingFits, hloaded] using eq_or_ne new.action.count 0

theorem State.Change.keepsActions {s t : State} (change : s.Change t) (hs : s.ActionsHold) : t.ActionsHold :=
  actionLaw.keeps change hs

theorem State.Change.keepsRemaining {s t : State} (change : s.Change t) (hs : s.RemainingHolds) : t.RemainingHolds :=
  remainingLaw.keeps change hs

end Sys2Proof.Machine
end

section
/-! The waiting lists over every step: the open lists of the groups (Section 5.2) and the parked lists of the channels
(Section 6.7). -/

namespace Sys2Proof.Machine

/-! ### The open lists (R1, R87, R88) -/

/-- What an OPEN slot holds. -/
def Slot.opened? : Slot → Option Held
  | .opened h => some h
  | _ => none

theorem Slot.isOpenIn_eq (g : GroupNo) (x : Slot) : x.isOpenIn g = x.opened?.any (fun h => h.action.group == some g) := by
  cases x <;> rfl

theorem Slot.isOpened_eq (x : Slot) : x.isOpened = x.opened?.isSome := by cases x <;> rfl

/-- The law of the open lists for one group, in a state with the given slots. -/
def Group.ListHolds (x : Group) (slot : SlotNo → Slot) (g : GroupNo) : Prop :=
  x.openList.Nodup ∧ (∀ n, n ∈ x.openList ↔ (slot n).isOpenIn g = true) ∧ (x.state = .empty → x.openList = []) ∧
    (x.state = .filling → x.openList ≠ [])

/-- The law reads what the OPEN slots hold, and the state and open list of each group. -/
theorem State.OpenListsHold.of_eq {s t : State} (h : s.OpenListsHold)
    (hslot : ∀ n, (t.slot n).opened? = (s.slot n).opened?)
    (hgroup : ∀ g, (t.group g).state = (s.group g).state ∧ (t.group g).openList = (s.group g).openList) :
    t.OpenListsHold := by
  refine ⟨fun g => ?_, fun n hn => ?_⟩
  · obtain ⟨hstate, hlist⟩ := hgroup g
    simp only [hstate, hlist, Slot.isOpenIn_eq, hslot]
    simpa only [Slot.isOpenIn_eq] using h.1 g
  · simp only [Slot.isOpened_eq, Slot.isOpenIn_eq, hslot] at hn ⊢
    simpa only [Slot.isOpenIn_eq] using h.2 n (by rwa [Slot.isOpened_eq])

theorem State.place_groups (s : State) (n : SlotNo) (h : Held) : (s.place n h).groups = s.groups := by
  rcases s.place_cases n h with ⟨-, e⟩ | ⟨-, e⟩ | ⟨-, e⟩ <;> rw [e]
  · rfl
  · rfl
  · rw [State.park_eq]

theorem State.popDone_groups (s : State) (n : SlotNo) (rest : List SlotNo) : (s.popDone n rest).groups = s.groups := by
  unfold State.popDone
  split <;> rfl

/-- The slot is OPEN in no group but `g`. -/
def Slot.OpenOnlyIn (g : GroupNo) (x : Slot) : Prop := ∀ h ∈ x.opened?, h.action.group = some g

theorem Slot.isOpenIn_of_openOnlyIn {g k : GroupNo} {x : Slot} (h : x.OpenOnlyIn g) (hk : k ≠ g) :
    x.isOpenIn k = false := by
  rw [Slot.isOpenIn_eq]
  cases hx : x.opened? with
  | none => rfl
  | some held => simp [h held hx, Ne.symm hk]

/-- A change to the group `g`, whose list holds afterwards, and to slots OPEN in no other group before and after. -/
theorem State.OpenListsHold.update {s t : State} (hs : s.OpenListsHold) (g : GroupNo)
    (hgroup : ∀ k, k ≠ g → t.group k = s.group k) (hhere : (t.group g).ListHolds t.slot g)
    (hslot : ∀ n, (t.slot n).opened? = (s.slot n).opened? ∨ (s.slot n).OpenOnlyIn g ∧ (t.slot n).OpenOnlyIn g) :
    t.OpenListsHold := by
  refine ⟨fun k => ?_, fun n hn => ?_⟩
  · by_cases hk : k = g
    · exact hk ▸ hhere
    · have hother (n : SlotNo) : (t.slot n).isOpenIn k = (s.slot n).isOpenIn k := by
        rcases hslot n with hsame | ⟨hbefore, hafter⟩
        · rw [Slot.isOpenIn_eq, Slot.isOpenIn_eq, hsame]
        · rw [Slot.isOpenIn_of_openOnlyIn hbefore hk, Slot.isOpenIn_of_openOnlyIn hafter hk]
      simp only [hgroup k hk, hother]
      exact hs.1 k
  · rw [Slot.isOpened_eq] at hn
    rcases hslot n with hsame | ⟨-, hafter⟩
    · obtain ⟨k, hk⟩ := hs.2 n (by rw [Slot.isOpened_eq, ← hsame]; exact hn)
      exact ⟨k, by rwa [Slot.isOpenIn_eq, hsame, ← Slot.isOpenIn_eq]⟩
    · obtain ⟨h, hh⟩ := Option.isSome_iff_exists.mp hn
      exact ⟨g, by simp [Slot.isOpenIn_eq, hh, hafter h hh]⟩

theorem Slot.openOnlyIn_of_isOpenIn {g : GroupNo} {x : Slot} (h : x.isOpenIn g = true) : x.OpenOnlyIn g := by
  intro held hheld
  rw [Slot.isOpenIn_eq, hheld] at h
  exact beq_iff_eq.mp h

theorem Slot.openOnlyIn_of_none {g : GroupNo} {x : Slot} (h : x.opened? = none) : x.OpenOnlyIn g := by
  intro held hheld
  rw [h] at hheld
  cases hheld

/-- The group `g` becomes EMPTY, its members leave it and the other slots stand. -/
theorem State.OpenListsHold.emptied {s t : State} (hs : s.OpenListsHold) (g : GroupNo)
    (hgroup : ∀ k, k ≠ g → t.group k = s.group k) (hstate : (t.group g).state = .empty)
    (hlist : (t.group g).openList = [])
    (hmember : ∀ n, n ∈ (s.group g).openList → (t.slot n).opened? = none)
    (hother : ∀ n, n ∉ (s.group g).openList → t.slot n = s.slot n) : t.OpenListsHold := by
  obtain ⟨-, hmem, -, -⟩ := hs.1 g
  refine hs.update g hgroup ⟨by rw [hlist]; exact List.nodup_nil, fun n => ?mem, fun _ => hlist, fun h => ?filling⟩ fun n => ?slot
  case mem =>
    rw [hlist]
    refine ⟨fun h => absurd h List.not_mem_nil, fun h => absurd h (Bool.not_eq_true _ ▸ ?_)⟩
    by_cases hn : n ∈ (s.group g).openList
    · rw [Slot.isOpenIn_eq, hmember n hn]; rfl
    · rw [hother n hn]; exact Bool.eq_false_iff.mpr fun hin => hn ((hmem n).mpr hin)
  case filling => rw [hstate] at h; cases h
  case slot =>
    by_cases hn : n ∈ (s.group g).openList
    · exact .inr ⟨Slot.openOnlyIn_of_isOpenIn ((hmem n).mp hn), Slot.openOnlyIn_of_none (hmember n hn)⟩
    · exact .inl (by rw [hother n hn])

theorem Held.placedAt_opened (now : Tick) (h : Held) : (h.placedAt now).opened? = none := by
  unfold Held.placedAt
  cases h.action.mode <;> rfl

theorem Slot.placed_opened (now : Tick) (x : Slot) : (x.placed now).opened? = none := by
  cases x with
  | opened h => exact h.placedAt_opened now
  | _ => rfl

theorem State.OpenListsHold.commitMembers {s : State} (hs : s.OpenListsHold) (g : GroupNo) (cause : CommitCause) :
    (s.commitMembers g cause).OpenListsHold := by
  have hgroups : ((s.group g).openList.foldl State.placeMember s).groups = s.groups := (s.placeMembers_untouched _).2.1
  have hslot (n : SlotNo) : (s.commitMembers g cause).slot n
      = if n ∈ (s.group g).openList then (s.slot n).placed s.now else s.slot n := s.slot_placeMembers _ n
  have hgroup (k : GroupNo) (hk : k ≠ g) : (s.commitMembers g cause).group k = s.group k := by
    rw [State.commitMembers, State.closeCommit, State.group_setGroup, if_neg hk]
    exact State.group_of_groups_eq hgroups k
  have hhere : (s.commitMembers g cause).group g =
      ⟨.empty, [], cause, (((s.group g).openList.foldl State.placeMember s).group g).done || cause != .now⟩ :=
    State.group_setGroup_self _ _ _
  refine hs.emptied g hgroup (by rw [hhere]) (by rw [hhere]) (fun n hn => ?_) fun n hn => ?_
  · rw [hslot, if_pos hn]
    exact Slot.placed_opened _ _
  · rw [hslot, if_neg hn]

theorem State.OpenListsHold.discard {s : State} (hs : s.OpenListsHold) (g : GroupNo) :
    (((s.group g).openList.foldl State.freeOpen s).setGroup g (s.group g).emptied).OpenListsHold := by
  obtain ⟨-, hmem, -, -⟩ := hs.1 g
  have hslot := s.slot_freeOpens_openList g hs
  refine hs.emptied g (fun k hk => ?_) (by rw [State.group_setGroup_self]; rfl) (by rw [State.group_setGroup_self]; rfl)
    (fun n hn => ?_) fun n hn => ?_
  · rw [State.group_setGroup, if_neg hk, State.freeOpens_eq]
    rfl
  · rw [State.setGroup_slot, hslot, if_pos ((hmem n).mp hn)]
    rfl
  · rw [State.setGroup_slot, hslot, if_neg fun hin => hn ((hmem n).mpr hin)]

theorem State.OpenListsHold.openInto {s : State} (hs : s.OpenListsHold) {n : SlotNo} {h : Held} {g : GroupNo}
    (hfree : s.slot n = .free) (hgroup : h.action.group = some g)
    (hstate : ∀ anchor replace, (s.group g).state ≠ .pending anchor replace) : (s.openInto n h g).OpenListsHold := by
  obtain ⟨hnodup, hmem, -, -⟩ := hs.1 g
  have hout : n ∉ (s.group g).openList := fun hin => by
    have := (hmem n).mp hin
    rw [hfree] at this
    cases this
  have hhere : (s.openInto n h g).group g
      = { s.group g with
          openList := (s.group g).openList ++ [n]
          state := match (s.group g).state with
            | .empty => .filling
            | other => other } := State.group_setGroup_self _ _ _
  have hslot (m : SlotNo) : (s.openInto n h g).slot m = if m = n then .opened h else s.slot m := s.slot_setSlot n m _
  refine hs.update g (fun k hk => ?_) ?_ fun m => ?_
  · rw [State.openInto, State.group_setGroup, if_neg hk]
    rfl
  · rw [hhere]
    refine ⟨List.nodup_append.mpr ⟨hnodup, List.nodup_singleton n, fun a ha b hb hab =>
      hout (List.mem_singleton.mp hb ▸ hab ▸ ha)⟩, fun m => ?_, fun hempty => ?_, fun _ => by simp⟩
    · rw [hslot, List.mem_append, List.mem_singleton, hmem]
      by_cases hm : m = n
      · simp [hm, Slot.isOpenIn, hgroup]
      · simp [hm]
    · cases hg : (s.group g).state with
      | pending a r => exact absurd hg (hstate a r)
      | _ => simp [hg] at hempty
  · rw [hslot]
    by_cases hm : m = n
    · rw [if_pos hm, hm, hfree]
      refine .inr ⟨Slot.openOnlyIn_of_none rfl, fun held hheld => ?_⟩
      cases hheld
      exact hgroup
    · exact .inl (by rw [if_neg hm])

theorem State.OpenListsHold.cancelOpen {s : State} (hs : s.OpenListsHold) {n : SlotNo} {h : Held}
    (hslot : s.slot n = .opened h) : (s.cancelOpen n h).OpenListsHold := by
  obtain ⟨g, hin⟩ := hs.2 n (by rw [hslot]; rfl)
  have hgroup : h.action.group = some g := by
    rw [hslot] at hin
    exact beq_iff_eq.mp hin
  obtain ⟨hnodup, hmem, hempty, -⟩ := hs.1 g
  have heq : s.cancelOpen n h = (s.setSlot n .free).setGroup g ((s.group g).dropMember n) := by
    rw [State.cancelOpen, hgroup]
  rw [heq]
  refine hs.update g (fun k hk => ?_) ?_ fun m => ?_
  · rw [State.group_setGroup, if_neg hk]
    rfl
  · rw [State.group_setGroup_self, Group.dropMember_eq]
    refine ⟨hnodup.filter _, fun m => ?_, fun hstate => ?_, fun hstate => ?_⟩
    · rw [State.setGroup_slot, State.slot_setSlot, List.mem_filter, hmem]
      by_cases hm : m = n <;> simp [hm, Slot.isOpenIn]
    · simp only at hstate
      split at hstate
      · rename_i hlast
        exact hlast.1
      · rw [hempty hstate, List.filter_nil]
    · simp only at hstate
      split at hstate
      · cases hstate
      · rename_i hleft
        exact fun hnil => hleft ⟨hnil, hstate⟩
  · rw [State.setGroup_slot, State.slot_setSlot]
    by_cases hm : m = n
    · rw [if_pos hm, hm]
      exact .inr ⟨Slot.openOnlyIn_of_isOpenIn hin, Slot.openOnlyIn_of_none rfl⟩
    · exact .inl (by rw [if_neg hm])

/-- A slot that leaves one collection for another is never OPEN, and the groups stand. -/
theorem State.Leaves.opened {s u : State} {n : SlotNo} {h : Held} (leaves : s.Leaves n h u) :
    (s.slot n).opened? = none ∧ u.groups = s.groups := by
  cases leaves with
  | scheduled hslot _ => exact ⟨by rw [hslot]; rfl, rfl⟩
  | parked hslot => exact ⟨by rw [hslot]; rfl, by rw [State.unpark_eq]⟩
  | active hslot _ => exact ⟨by rw [hslot]; rfl, by rw [State.releaseClaims_eq]; rfl⟩

theorem State.Enters.opened {lawful : Prop} {s t : State} {n : SlotNo} {h : Held} (enters : s.Enters lawful n h t) :
    (∀ m, (t.slot m).opened? = if m = n then none else (s.slot m).opened?) ∧ t.groups = s.groups := by
  have hrewritten {x : Slot} (hx : x.opened? = none) (m : SlotNo) :
      (if m = n then x else s.slot m).opened? = if m = n then none else (s.slot m).opened? := by
    split
    · exact hx
    · rfl
  cases enters with
  | complete status => exact ⟨fun m => by rw [State.slot_complete]; exact hrewritten rfl m, rfl⟩
  | scheduled _ _ => exact ⟨fun m => (congrArg _ (s.slot_setSlot n m _)).trans (hrewritten rfl m), rfl⟩
  | parked _ => exact ⟨fun m => by rw [State.slot_park]; exact hrewritten rfl m, by rw [State.park_eq]⟩

theorem State.OpenListsHold.of_groups_eq {s t : State} (h : s.OpenListsHold)
    (hslot : ∀ n, (t.slot n).opened? = (s.slot n).opened?) (hgroups : t.groups = s.groups) : t.OpenListsHold :=
  h.of_eq hslot fun g => by rw [State.group_of_groups_eq hgroups g]; exact ⟨rfl, rfl⟩

theorem State.group_quiesced (s : State) (g : GroupNo) : s.quiesced.group g = (s.group g).emptied := by
  have hfold : (slotNumbers.foldl State.quiesceSlot s.emptyGroups).group g = s.emptyGroups.group g := by
    refine foldl_keeps _ (fun t => t.group g) (fun t n => ?_) _ _
    unfold State.quiesceSlot
    cases t.slot n with
    | parked h => simp only; rw [State.unpark_eq]; rfl
    | active h a b p => simp only; rw [State.cut_eq, State.releaseClaims_eq]; rfl
    | _ => rfl
  rw [State.quiesced, State.clearMeasurements_group, State.idleLines_group, hfold, State.group_emptyGroups]

theorem State.OpenListsHold.quiesced {s : State} : s.quiesced.OpenListsHold := by
  have hslot (n : SlotNo) : (s.quiesced.slot n).opened? = none := by
    rw [State.slot_quiesced]
    cases s.slot n <;> rfl
  have hgroup := s.group_quiesced
  refine ⟨fun g => ⟨?_, fun n => ?_, fun _ => ?_, fun h => ?_⟩, fun n hn => ?_⟩
  · rw [hgroup]; exact List.nodup_nil
  · rw [hgroup, Slot.isOpenIn_eq, hslot]; simp [Group.emptied]
  · rw [hgroup]; rfl
  · rw [hgroup] at h; cases h
  · rw [Slot.isOpened_eq, hslot] at hn; cases hn

theorem State.Change.keepsOpenLists {s t : State} (change : s.Change t) (hs : s.OpenListsHold) : t.OpenListsHold := by
  cases change with
  | quiet same => exact hs.of_eq (fun n => by rw [same.slot n]) same.groups
  | log | threshold | time | tick | line | channel | clearMeasurements | dropHead =>
    exact hs.of_groups_eq (fun _ => rfl) rfl
  | openInto hfree _ hgroup hstate => exact hs.openInto hfree hgroup hstate
  | @placePosted a n hfree =>
    refine hs.of_groups_eq (fun m => ?_) (s.place_groups n _)
    rw [State.slot_place]
    by_cases hm : m = n
    · rw [if_pos hm, Held.placedAt_opened, hm, hfree]; rfl
    · rw [if_neg hm]
  | cancelOpen hslot => exact hs.cancelOpen hslot
  | @move n old new u t leaves enters =>
    obtain ⟨hleft, hgroups⟩ := leaves.opened
    obtain ⟨-, hslots, -⟩ := leaves.queue
    obtain ⟨hentered, hgroups'⟩ := enters.opened
    refine hs.of_groups_eq (fun m => ?_) (hgroups'.trans hgroups)
    rw [hentered, hslots]
    by_cases hm : m = n
    · rw [if_pos hm, hm, hleft]
    · rw [if_neg hm]
  | @fire e rest old new due hcalendar hslot =>
    refine hs.of_groups_eq (fun m => ?_) (by rw [State.beginFiring_eq]; rfl)
    rw [State.slot_beginFiring]
    by_cases hm : m = e.slot
    · rw [if_pos hm, hm, hslot]; rfl
    · rw [if_neg hm]; rfl
  | @mark n h a b p hslot =>
    refine hs.of_groups_eq (fun m => ?_) rfl
    rw [State.slot_setSlot]
    by_cases hm : m = n
    · rw [if_pos hm, hm, hslot]; rfl
    · rw [if_neg hm]
  | commitMembers g cause => exact hs.commitMembers g cause
  | pend g anchor replace =>
    obtain ⟨hnodup, hmem, -, -⟩ := hs.1 g
    refine hs.update g (fun k hk => by rw [State.group_setGroup, if_neg hk]) ?_ fun _ => .inl rfl
    rw [State.group_setGroup_self]
    exact ⟨hnodup, hmem, fun h => (nomatch h), fun h => nomatch h⟩
  | discard g => exact hs.discard g
  | launch ch trigger =>
    refine hs.of_groups_eq (fun m => ?_) (s.launch_untouched ch trigger).2.1
    rw [State.slot_launch]
    split
    · cases s.slot m <;> rfl
    · rfl
  | @popDone n rest hqueue =>
    refine hs.of_groups_eq (fun m => ?_) (s.popDone_groups n rest)
    rcases s.popDone_slot_calendar n rest with ⟨h, status, time, hslot, hslots⟩ | hslots <;> rw [hslots]
    by_cases hm : m = n
    · rw [if_pos hm, hm, hslot]; rfl
    · rw [if_neg hm]
  | quiesce => exact State.OpenListsHold.quiesced
  | reset =>
    refine ⟨fun g => ?_, fun n hn => ?_⟩
    · simp [State.reset, State.group, State.slot, Vector.get_eq_getElem, Group.afterReset, Slot.isOpenIn]
    · simp [State.reset, State.slot, Vector.get_eq_getElem, Slot.isOpened] at hn

end Sys2Proof.Machine
end

section
/-! The parked lists of the channels over every step (Section 6.7), and with them the waiting lists. -/

namespace Sys2Proof.Machine

/-- The law reads which slots are PARKED on which channel, and the parked lists. -/
theorem State.ParkedListsHold.of_eq {s t : State} (h : s.ParkedListsHold)
    (hslot : ∀ n c, (t.slot n).isParkedOn c = (s.slot n).isParkedOn c)
    (hlist : ∀ c, (t.channel c).parked = (s.channel c).parked) : t.ParkedListsHold :=
  fun c => by simpa only [hlist, hslot] using h c

theorem State.ParkedListsHold.setSlot {s : State} (h : s.ParkedListsHold) {n : SlotNo} {x : Slot}
    (hx : ∀ c, x.isParkedOn c = (s.slot n).isParkedOn c) : (s.setSlot n x).ParkedListsHold := by
  refine h.of_eq (fun m c => ?_) fun _ => rfl
  rw [State.slot_setSlot]
  by_cases hm : m = n <;> simp [hm, hx]

theorem Slot.isParkedOn_of_isUnplaced {x : Slot} (h : x.isUnplaced = true) (c : ChanNo) : x.isParkedOn c = false := by
  cases x <;> simp_all [Slot.isUnplaced, Slot.isParkedOn]

/-- A change of a line and of an ack claim leaves the parked lists. -/
theorem State.parked_releaseClaims (s : State) (h : Held) (c : ChanNo) :
    ((s.releaseClaims h).channel c).parked = (s.channel c).parked := by
  rw [State.releaseClaims_channel]
  split <;> rfl

theorem State.Leaves.parkedListsHold {s u : State} {n : SlotNo} {h : Held} (leaves : s.Leaves n h u)
    (hs : s.ParkedListsHold) : (u.setSlot n .free).ParkedListsHold := by
  cases leaves with
  | scheduled hslot _ => exact State.ParkedListsHold.setSlot hs fun c => by rw [hslot]; rfl
  | @active a b p calendar hslot _ =>
    have hreleased : ((s.setCalendar calendar).releaseClaims h).ParkedListsHold :=
      hs.of_eq (fun m c => by rw [State.slot_releaseClaims]; rfl) fun c => State.parked_releaseClaims _ h c
    refine hreleased.setSlot fun c => ?_
    rw [State.slot_releaseClaims, State.setCalendar_slot, hslot]
    rfl
  | parked hslot =>
    intro c
    obtain ⟨hnodup, hmem⟩ := hs c
    have hin : n ∈ (s.channel c).parked ↔ h.action.channel = some c := by simp [hmem, hslot, Slot.isParkedOn]
    have hlist : (((s.unpark n h).setSlot n .free).channel c).parked = (s.channel c).parked.filter (· != n) := by
      rw [State.setSlot_channel, State.unpark_channel]
      split
      · rfl
      · rename_i hother
        refine (List.filter_eq_self.mpr fun m hm => bne_iff_ne.mpr ?_).symm
        rintro rfl
        exact hother (hin.mp hm)
    rw [hlist]
    refine ⟨hnodup.filter _, fun m => ?_⟩
    rw [State.slot_setSlot, State.slot_unpark, List.mem_filter, hmem]
    by_cases hm : m = n <;> simp [hm, Slot.isParkedOn]

theorem parkedLaw : SlotLaw False State.ParkedListsHold where
  unplaced hslot hx hs :=
    hs.setSlot fun c => (Slot.isParkedOn_of_isUnplaced hx c).trans (Slot.isParkedOn_of_isUnplaced hslot c).symm
  leaves leaves hs := leaves.parkedListsHold hs
  enters {s t n h} enters hs := by
    have hrewritten {x : Slot} (hx : ∀ c, x.isParkedOn c = false) : (s.setSlot n x).ParkedListsHold := by
      have h := hs.setSlot (n := n) (x := x) fun c => by rw [State.slot_setSlot_self]; exact hx c
      rwa [State.setSlot, State.setSlot_slots, Vector.set_set] at h
    cases enters with
    | complete status => exact (hrewritten (x := .complete h status s.now) fun _ => rfl).of_eq (fun _ _ => rfl) fun _ => rfl
    | @scheduled due _ _ _ => exact (hrewritten (x := .scheduled h due) fun _ => rfl).of_eq (fun _ _ => rfl) fun _ => rfl
    | parked _ =>
      intro c
      obtain ⟨hnodup, hmem⟩ := hs c
      rw [State.setSlot_channel] at hnodup hmem
      have hout : n ∉ (s.channel c).parked := fun hin => by
        have h := (hmem n).mp hin
        rw [State.slot_setSlot_self] at h
        cases h
      have hother (m : SlotNo) (hm : m ≠ n) : m ∈ (s.channel c).parked ↔ (s.slot m).isParkedOn c = true := by
        rw [hmem, State.slot_setSlot, if_neg hm]
      rw [State.park_channel]
      by_cases hc : h.action.channel = some c
      · rw [if_pos hc]
        refine ⟨List.nodup_append.mpr ⟨hnodup, List.nodup_singleton n, fun a ha b hb hab =>
          hout (List.mem_singleton.mp hb ▸ hab ▸ ha)⟩, fun m => ?_⟩
        rw [State.slot_park, List.mem_append, List.mem_singleton]
        by_cases hm : m = n
        · simp [hm, Slot.isParkedOn, hc]
        · simp [hm, hother m hm]
      · rw [if_neg hc]
        refine ⟨hnodup, fun m => ?_⟩
        rw [State.slot_park]
        by_cases hm : m = n
        · simp [hm, hout, Slot.isParkedOn, hc]
        · simp [hm, hother m hm]
  group hs := hs.of_eq (fun _ _ => rfl) fun _ => rfl

/-- A launch empties one list and takes each of its members out of PARKED (R129). -/
theorem State.ParkedListsHold.launch {s : State} (hs : s.ParkedListsHold) (ch : ChanNo) (trigger : Tick) :
    (s.launch ch trigger).ParkedListsHold := by
  intro c
  obtain ⟨hnodup, hmem⟩ := hs c
  have hlaunched (x : Slot) : (x.launched trigger).isParkedOn c = false := by cases x <;> rfl
  rw [State.channel_launch]
  by_cases hc : c = ch
  · subst hc
    rw [if_pos rfl]
    refine ⟨List.nodup_nil, fun n => ?_⟩
    rw [State.slot_launch]
    by_cases hn : n ∈ (s.channel c).parked
    · simp [hn, hlaunched]
    · simpa [hn] using fun h => hn ((hmem n).mpr h)
  · rw [if_neg hc]
    refine ⟨hnodup, fun n => ?_⟩
    rw [hmem, State.slot_launch]
    by_cases hn : n ∈ (s.channel ch).parked
    · have hon := ((hs ch).2 n).mp hn
      rw [if_pos hn, hlaunched]
      cases hslot : s.slot n with
      | parked h =>
        rw [hslot] at hon
        have hch : h.action.channel = some ch := beq_iff_eq.mp hon
        simp [Slot.isParkedOn, hch, Ne.symm hc]
      | _ => rfl
    · rw [if_neg hn]

theorem State.popDone_channels (s : State) (n : SlotNo) (rest : List SlotNo) :
    (s.popDone n rest).channels = s.channels ∧ (s.popDone n rest).lines = s.lines := by
  unfold State.popDone
  split <;> exact ⟨rfl, rfl⟩

theorem State.channel_of_channels_eq {s t : State} (h : t.channels = s.channels) (c : ChanNo) : t.channel c = s.channel c := by
  simp [State.channel, h]

theorem State.line_of_lines_eq {s t : State} (h : t.lines = s.lines) (l : LineNo) : t.line l = s.line l := by
  simp [State.line, h]

/-- A view of one slot that a DONEPOP keeps: it reads nothing of a COMPLETE slot and of a FREE one. -/
theorem State.popDone_view {α : Type} (s : State) (n : SlotNo) (rest : List SlotNo) (view : Slot → α)
    (hview : ∀ h status time, view (.complete h status time) = view .free) (m : SlotNo) :
    view ((s.popDone n rest).slot m) = view (s.slot m) := by
  rcases s.popDone_slot_calendar n rest with ⟨h, status, time, hslot, hslots⟩ | hslots <;> rw [hslots]
  by_cases hm : m = n <;> simp [hm, hslot, hview]

theorem State.Change.keepsParkedLists {s t : State} (change : s.Change t) (hs : s.ParkedListsHold) : t.ParkedListsHold := by
  cases change with
  | quiet same => exact hs.of_eq (fun n c => by rw [same.slot n]) fun c => by rw [same.channel c]
  | log | threshold | time | tick | line | pend | dropHead => exact hs.of_eq (fun _ _ => rfl) fun _ => rfl
  | @channel ch x hparked =>
    refine hs.of_eq (fun _ _ => rfl) fun c => ?_
    rw [State.channel_setChannel]
    by_cases hc : c = ch <;> simp [hc, hparked]
  | clearMeasurements =>
    exact hs.of_eq (fun _ _ => rfl) fun c => by rw [State.channel_clearMeasurements]; rfl
  | openInto hfree => exact parkedLaw.openInto _ _ hfree hs
  | placePosted hfree => exact parkedLaw.place _ (by rw [hfree]; rfl) hs
  | cancelOpen hslot => exact parkedLaw.cancelOpen hslot hs
  | move leaves enters => exact parkedLaw.move leaves enters False.elim hs
  | @fire e rest old new due hcalendar hslot =>
    refine (hs.setSlot (n := e.slot) (x := .active new e.due s.now e.pastFloor) fun c => by rw [hslot]; rfl).of_eq
      (fun m c => ?_) fun c => ?_
    · rw [State.slot_beginFiring, State.slot_setSlot]; rfl
    · rw [State.channel_beginFiring]
      split <;> rfl
  | mark hslot => exact hs.setSlot fun c => by rw [hslot]; rfl
  | commitMembers g cause => exact parkedLaw.commitMembers g cause hs
  | discard g => exact parkedLaw.discard g hs
  | launch ch trigger => exact hs.launch ch trigger
  | @popDone n rest hqueue =>
    refine hs.of_eq (fun m c => s.popDone_view n rest (·.isParkedOn c) (fun _ _ _ => rfl) m) fun c => ?_
    rw [State.channel_of_channels_eq (s.popDone_channels n rest).1]
  | quiesce =>
    exact parkedLaw.quiesce (fun t ht => ht.of_eq (fun n c => by rw [t.emptyGroups_slot]) fun c => by rw [t.emptyGroups_channel])
      (fun t ht => ht.of_eq (fun n c => by rw [t.idleLines_slot]) fun c => by rw [t.idleLines_channel])
      (fun t ht => ht.of_eq (fun _ _ => rfl) fun c => by rw [State.channel_clearMeasurements]; rfl) hs
  | reset =>
    intro c
    simp [State.reset, State.slot, State.channel, Vector.get_eq_getElem, Slot.isParkedOn, Channel.afterReset]

/-- Settles O56: the POST checks its action and writes it once; a slot joins and leaves an open list, and a parked list,
with the state that puts it there. -/
theorem stepKeepsTheWaitingLists : Obligations.StepKeepsTheWaitingLists :=
  ⟨fun _ _ hs hstep => step_keeps (fun _ _ => State.Change.keepsActions) hs hstep,
    fun _ _ hs hstep => step_keeps (fun _ _ => State.Change.keepsOpenLists) hs hstep,
    fun _ _ _ hs hstep => step_keeps (fun _ _ => State.Change.keepsParkedLists) hs hstep⟩

end Sys2Proof.Machine
end

section
/-! The claims over every step: on the lines (Section 4.1) and on the channels (Section 7.1). -/

namespace Sys2Proof.Machine

/-! ### One claim and the slots that could hold it -/

/-- The claim is held exactly by the slot that holds. -/
def ClaimHeld (claim : Option SlotNo) (holds : SlotNo → Bool) : Prop := ∀ n, claim = some n ↔ holds n = true

theorem ClaimHeld.freed {claim : Option SlotNo} {before after : SlotNo → Bool} (h : ClaimHeld claim before) {n : SlotNo}
    (hafter : ∀ m, after m = if m = n then false else before m) :
    ClaimHeld (if before n = true then none else claim) after := by
  intro m
  rw [hafter]
  by_cases hn : before n = true
  · have hclaim := (h n).mpr hn
    rw [if_pos hn]
    by_cases hm : m = n
    · simp [hm]
    · have : before m ≠ true := fun hb => hm (Option.some.inj (((h m).mpr hb).symm.trans hclaim))
      simp [hm, this]
  · rw [if_neg hn, h m]
    by_cases hm : m = n <;> simp [hm, hn]

theorem ClaimHeld.taken {claim : Option SlotNo} {before after : SlotNo → Bool} (h : ClaimHeld claim before)
    (hnone : claim = none) {n : SlotNo} (hafter : ∀ m, after m = if m = n then true else before m) :
    ClaimHeld (some n) after := by
  intro m
  rw [hafter]
  have hm := h m
  rw [hnone] at hm
  by_cases heq : m = n
  · simp [heq]
  · simpa [heq, Ne.symm heq] using hm

theorem ClaimHeld.congr {claim : Option SlotNo} {before after : SlotNo → Bool} (h : ClaimHeld claim before)
    (hafter : ∀ m, after m = before m) : ClaimHeld claim after :=
  fun m => by rw [hafter]; exact h m

/-- What slot `m` holds of a claim after slot `n` is rewritten. -/
theorem State.holds_setSlot (holds : Slot → Bool) (s : State) {t : State} {n : SlotNo} {x : Slot}
    (hslot : ∀ m, t.slot m = if m = n then x else s.slot m) (m : SlotNo) :
    holds (t.slot m) = if m = n then holds x else holds (s.slot m) := by
  rw [hslot]
  split <;> rfl

/-! ### The lines (R59) -/

theorem State.ClaimsHold.of_eq {s t : State} (h : s.ClaimsHold)
    (hslot : ∀ n l, (t.slot n).isActiveOn l = (s.slot n).isActiveOn l) (hline : ∀ l, t.line l = s.line l) : t.ClaimsHold :=
  fun l => by simpa only [hline, hslot] using h l

theorem State.ClaimsHold.setSlot {s : State} (h : s.ClaimsHold) {n : SlotNo} {x : Slot}
    (hx : ∀ l, x.isActiveOn l = (s.slot n).isActiveOn l) : (s.setSlot n x).ClaimsHold := by
  refine h.of_eq (fun m l => ?_) fun _ => rfl
  rw [State.slot_setSlot]
  by_cases hm : m = n <;> simp [hm, hx]

theorem Slot.isActiveOn_of_isUnplaced {x : Slot} (h : x.isUnplaced = true) (l : LineNo) : x.isActiveOn l = false := by
  cases x <;> simp_all [Slot.isUnplaced, Slot.isActiveOn]

theorem State.Leaves.claimsHold {s u : State} {n : SlotNo} {h : Held} (leaves : s.Leaves n h u)
    (hs : s.ClaimsHold) : (u.setSlot n .free).ClaimsHold := by
  cases leaves with
  | scheduled hslot _ => exact State.ClaimsHold.setSlot hs fun l => by rw [hslot]; rfl
  | parked hslot =>
    have hunparked : (s.unpark n h).ClaimsHold :=
      hs.of_eq (fun m l => by rw [State.slot_unpark]) fun l => by rw [State.unpark_eq]; rfl
    exact hunparked.setSlot fun l => by rw [State.slot_unpark, hslot]; rfl
  | @active a b p calendar hslot _ =>
    intro l
    obtain ⟨hclaim, hactive⟩ := hs l
    have hhere : (s.slot n).isActiveOn l = true ↔ h.action.line = some l := by rw [hslot]; exact beq_iff_eq
    have hafter := State.holds_setSlot (·.isActiveOn l) s (x := .free) (n := n)
      (t := ((s.setCalendar calendar).releaseClaims h).setSlot n .free) fun m => by
        rw [State.slot_setSlot, State.slot_releaseClaims, State.setCalendar_slot]
    have hheld : ClaimHeld _ _ := ClaimHeld.freed hclaim hafter
    have hline : (((s.setCalendar calendar).releaseClaims h).setSlot n .free).line l
        = if h.action.line = some l then { s.line l with isActive := false, claim := none } else s.line l :=
      State.releaseClaims_line _ h l
    rw [hline]
    by_cases hl : h.action.line = some l
    · rw [if_pos (hhere.mpr hl)] at hheld
      rw [if_pos hl]
      exact ⟨hheld, fun hne => absurd rfl hne⟩
    · rw [if_neg (hl ∘ hhere.mp)] at hheld
      rw [if_neg hl]
      exact ⟨hheld, hactive⟩

/-- A slot that becomes COMPLETE, SCHEDULED or PARKED holds no claim, and the lines and the claims of the channels stand. -/
theorem State.Enters.unclaimed {lawful : Prop} {s t : State} {n : SlotNo} {h : Held} (enters : s.Enters lawful n h t) :
    (∃ x : Slot, (∀ l, x.isActiveOn l = false) ∧ (∀ c, x.isStrobeOn c = false) ∧
      ∀ m, t.slot m = if m = n then x else s.slot m) ∧
    (∀ l, t.line l = s.line l) ∧
    ∀ c, (t.channel c).ackClaim = (s.channel c).ackClaim ∧ (t.channel c).mode = (s.channel c).mode := by
  cases enters with
  | complete status =>
    exact ⟨⟨_, fun _ => rfl, fun _ => rfl, fun m => s.slot_complete n m h status⟩, fun _ => rfl, fun _ => ⟨rfl, rfl⟩⟩
  | @scheduled due _ _ _ =>
    exact ⟨⟨.scheduled h due, fun _ => rfl, fun _ => rfl, fun m => s.slot_setSlot n m _⟩, fun _ => rfl, fun _ => ⟨rfl, rfl⟩⟩
  | parked _ =>
    refine ⟨⟨.parked h, fun _ => rfl, fun _ => rfl, fun m => s.slot_park n m h⟩, s.line_park n h, fun c => ?_⟩
    rw [State.park_channel]
    split <;> exact ⟨rfl, rfl⟩

theorem claimsLaw : SlotLaw False State.ClaimsHold where
  unplaced hslot hx hs :=
    hs.setSlot fun l => (Slot.isActiveOn_of_isUnplaced hx l).trans (Slot.isActiveOn_of_isUnplaced hslot l).symm
  leaves leaves hs := leaves.claimsHold hs
  enters {s t n h} enters hs := by
    obtain ⟨⟨x, hx, -, hslot⟩, hline, -⟩ := enters.unclaimed
    refine State.ClaimsHold.of_eq (s := s.setSlot n .free) hs (fun m l => ?_) hline
    rw [hslot, State.slot_setSlot]
    by_cases hm : m = n
    · rw [if_pos hm, if_pos hm, hx]; rfl
    · rw [if_neg hm, if_neg hm]
  group hs := hs.of_eq (fun _ _ => rfl) fun _ => rfl

/-- After a QUIESCE no slot is ACTIVE, so no line is claimed. -/
theorem State.ClaimsHold.quiesced {s : State} (hs : s.ClaimsHold) : s.quiesced.ClaimsHold := by
  have hempty : s.emptyGroups.ClaimsHold :=
    hs.of_eq (fun n l => by rw [s.emptyGroups_slot]) fun l => by rw [s.emptyGroups_line]
  have hended : (slotNumbers.foldl State.quiesceSlot s.emptyGroups).ClaimsHold := claimsLaw.quiesceSlots hempty
  intro l
  obtain ⟨hclaim, -⟩ := hended l
  have hidle (n : SlotNo) : ((slotNumbers.foldl State.quiesceSlot s.emptyGroups).slot n).isActiveOn l = false := by
    rw [State.slot_quiesceSlots]
    cases s.emptyGroups.slot n <;> rfl
  have hnone : ((slotNumbers.foldl State.quiesceSlot s.emptyGroups).line l).claim = none :=
    Option.eq_none_iff_forall_ne_some.mpr fun n hn => by
      have h := (hclaim n).mp hn
      rw [hidle n] at h
      cases h
  rw [State.quiesced, State.clearMeasurements_line, State.line_idleLines]
  generalize slotNumbers.foldl State.quiesceSlot s.emptyGroups = u at hclaim hnone
  refine ⟨fun n => ?_, fun h => absurd hnone h⟩
  rw [State.clearMeasurements_slot, State.idleLines_slot]
  exact hclaim n

theorem State.Change.keepsClaims {s t : State} (change : s.Change t) (hs : s.ClaimsHold) : t.ClaimsHold := by
  cases change with
  | quiet same => exact hs.of_eq (fun n l => by rw [same.slot n]) same.line
  | log | threshold | time | tick | channel | clearMeasurements | pend | dropHead =>
    exact hs.of_eq (fun _ _ => rfl) fun _ => rfl
  | @line k x hclaim =>
    obtain ⟨hbefore, hafter⟩ := hclaim hs
    intro l
    by_cases hl : l = k
    · subst hl
      rw [State.line_setLine_self]
      exact ⟨fun n => by rw [hafter, ← hbefore]; exact (hs l).1 n, fun h => absurd hafter h⟩
    · rw [State.line_setLine, if_neg hl]
      exact hs l
  | openInto hfree => exact claimsLaw.openInto _ _ hfree hs
  | placePosted hfree => exact claimsLaw.place _ (by rw [hfree]; rfl) hs
  | cancelOpen hslot => exact claimsLaw.cancelOpen hslot hs
  | move leaves enters => exact claimsLaw.move leaves enters False.elim hs
  | @fire e rest old new due hcalendar hslot _ _ hline =>
    intro l
    obtain ⟨hclaim, hactive⟩ := hs l
    have hafter := State.holds_setSlot (·.isActiveOn l) s (t := (s.setCalendar rest).beginFiring e new)
      (State.slot_beginFiring _ _ _)
    rw [State.line_beginFiring]
    by_cases hl : new.action.line = some l
    · rw [if_pos hl]
      have hnew : (Slot.active new e.due (s.setCalendar rest).now e.pastFloor).isActiveOn l = true := beq_iff_eq.mpr hl
      simp only [hnew] at hafter
      exact ⟨ClaimHeld.taken hclaim (hline l hl) hafter, fun _ => rfl⟩
    · rw [if_neg hl]
      refine ⟨ClaimHeld.congr hclaim fun m => ?_, hactive⟩
      rw [hafter]
      by_cases hm : m = e.slot
      · rw [if_pos hm, hm, hslot]
        exact beq_eq_false_iff_ne.mpr hl
      · rw [if_neg hm]
  | mark hslot => exact hs.setSlot fun l => by rw [hslot]; rfl
  | commitMembers g cause => exact claimsLaw.commitMembers g cause hs
  | discard g => exact claimsLaw.discard g hs
  | launch ch trigger =>
    exact claimsLaw.launch ch trigger (fun _ ht => ht.of_eq (fun _ _ => rfl) fun _ => rfl)
      (fun _ _ _ hslot ht => ht.setSlot fun l => by rw [hslot]; rfl) hs
  | @popDone n rest hqueue =>
    exact hs.of_eq (fun m l => s.popDone_view n rest (·.isActiveOn l) (fun _ _ _ => rfl) m)
      (State.line_of_lines_eq (s.popDone_channels n rest).2)
  | quiesce => exact hs.quiesced
  | reset =>
    intro l
    simp [State.reset, State.slot, State.line, Vector.get_eq_getElem, Slot.isActiveOn, Line.afterReset]

/-! ### The channels (R134) -/

/-- The law reads which slots are ACTIVE STROBEs on which channel, and the mode and ack claim of each channel. -/
theorem State.AckClaimsHold.of_eq {s t : State} (h : s.AckClaimsHold)
    (hslot : ∀ n c, (t.slot n).isStrobeOn c = (s.slot n).isStrobeOn c)
    (hchannel : ∀ c, (t.channel c).ackClaim = (s.channel c).ackClaim ∧ (t.channel c).mode = (s.channel c).mode) :
    t.AckClaimsHold := by
  intro c
  obtain ⟨hclaim, hmode⟩ := hchannel c
  simpa only [hclaim, hmode, hslot] using h c

theorem State.AckClaimsHold.setSlot {s : State} (h : s.AckClaimsHold) {n : SlotNo} {x : Slot}
    (hx : ∀ c, x.isStrobeOn c = (s.slot n).isStrobeOn c) : (s.setSlot n x).AckClaimsHold := by
  refine h.of_eq (fun m c => ?_) fun _ => ⟨rfl, rfl⟩
  rw [State.slot_setSlot]
  by_cases hm : m = n <;> simp [hm, hx]

theorem Slot.isStrobeOn_of_isUnplaced {x : Slot} (h : x.isUnplaced = true) (c : ChanNo) : x.isStrobeOn c = false := by
  cases x <;> simp_all [Slot.isUnplaced, Slot.isStrobeOn]

theorem Slot.isStrobeOn_active_iff (h : Held) (a b : Tick) (p : Nat) (c : ChanNo) :
    (Slot.active h a b p).isStrobeOn c = true ↔ h.action.kind = .strobe ∧ h.action.channel = some c := by
  simp [Slot.isStrobeOn]

theorem State.Leaves.ackClaimsHold {s u : State} {n : SlotNo} {h : Held} (leaves : s.Leaves n h u)
    (hs : s.AckClaimsHold) : (u.setSlot n .free).AckClaimsHold := by
  cases leaves with
  | scheduled hslot _ => exact State.AckClaimsHold.setSlot hs fun c => by rw [hslot]; rfl
  | parked hslot =>
    have hunparked : (s.unpark n h).AckClaimsHold := hs.of_eq (fun m c => by rw [State.slot_unpark]) fun c => by
      rw [State.unpark_channel]
      split <;> exact ⟨rfl, rfl⟩
    exact hunparked.setSlot fun c => by rw [State.slot_unpark, hslot]; rfl
  | @active a b p calendar hslot _ =>
    intro c
    obtain ⟨hclaim, hmode⟩ := hs c
    have hhere : (s.slot n).isStrobeOn c = true ↔ h.action.kind = .strobe ∧ h.action.channel = some c := by
      rw [hslot]
      exact Slot.isStrobeOn_active_iff h a b p c
    have hafter := State.holds_setSlot (·.isStrobeOn c) s (x := .free) (n := n)
      (t := ((s.setCalendar calendar).releaseClaims h).setSlot n .free) fun m => by
        rw [State.slot_setSlot, State.slot_releaseClaims, State.setCalendar_slot]
    have hheld : ClaimHeld _ _ := ClaimHeld.freed hclaim hafter
    have hchannel : (((s.setCalendar calendar).releaseClaims h).setSlot n .free).channel c
        = if h.action.kind = .strobe ∧ h.action.channel = some c then { s.channel c with ackClaim := none }
          else s.channel c := State.releaseClaims_channel _ h c
    rw [hchannel]
    by_cases hc : h.action.kind = .strobe ∧ h.action.channel = some c
    · rw [if_pos (hhere.mpr hc)] at hheld
      rw [if_pos hc]
      exact ⟨hheld, fun hne => absurd rfl hne⟩
    · rw [if_neg (hc ∘ hhere.mp)] at hheld
      rw [if_neg hc]
      exact ⟨hheld, hmode⟩

theorem ackClaimsLaw : SlotLaw False State.AckClaimsHold where
  unplaced hslot hx hs :=
    hs.setSlot fun c => (Slot.isStrobeOn_of_isUnplaced hx c).trans (Slot.isStrobeOn_of_isUnplaced hslot c).symm
  leaves leaves hs := leaves.ackClaimsHold hs
  enters {s t n h} enters hs := by
    obtain ⟨⟨x, -, hx, hslot⟩, -, hchannel⟩ := enters.unclaimed
    refine State.AckClaimsHold.of_eq (s := s.setSlot n .free) hs (fun m c => ?_) hchannel
    rw [hslot, State.slot_setSlot]
    by_cases hm : m = n
    · rw [if_pos hm, if_pos hm, hx]; rfl
    · rw [if_neg hm, if_neg hm]
  group hs := hs.of_eq (fun _ _ => rfl) fun _ => ⟨rfl, rfl⟩

theorem State.Change.keepsAckClaims {s t : State} (change : s.Change t) (hs : s.AckClaimsHold) : t.AckClaimsHold := by
  cases change with
  | quiet same => exact hs.of_eq (fun n c => by rw [same.slot n]) fun c => by rw [same.channel c]; exact ⟨rfl, rfl⟩
  | log | threshold | time | tick | line | pend | dropHead => exact hs.of_eq (fun _ _ => rfl) fun _ => ⟨rfl, rfl⟩
  | @channel ch x _ hack =>
    obtain ⟨hclaim, hmode⟩ := hack hs
    intro c
    by_cases hc : c = ch
    · subst hc
      rw [State.channel_setChannel_self]
      exact ⟨fun n => by rw [hclaim]; exact (hs c).1 n, fun hne => (hmode hne).trans ((hs c).2 (hclaim ▸ hne))⟩
    · rw [State.channel_setChannel, if_neg hc]
      exact hs c
  | clearMeasurements =>
    exact hs.of_eq (fun _ _ => rfl) fun c => by rw [State.channel_clearMeasurements]; exact ⟨rfl, rfl⟩
  | openInto hfree => exact ackClaimsLaw.openInto _ _ hfree hs
  | placePosted hfree => exact ackClaimsLaw.place _ (by rw [hfree]; rfl) hs
  | cancelOpen hslot => exact ackClaimsLaw.cancelOpen hslot hs
  | move leaves enters => exact ackClaimsLaw.move leaves enters False.elim hs
  | @fire e rest old new due hcalendar hslot _ _ _ hchannel =>
    intro c
    obtain ⟨hclaim, hmode⟩ := hs c
    have hafter := State.holds_setSlot (·.isStrobeOn c) s (t := (s.setCalendar rest).beginFiring e new)
      (State.slot_beginFiring _ _ _)
    have hnew := Slot.isStrobeOn_active_iff new e.due (s.setCalendar rest).now e.pastFloor c
    rw [State.channel_beginFiring]
    by_cases hc : new.action.kind = .strobe ∧ new.action.channel = some c
    · rw [if_pos hc]
      obtain ⟨hack, hnone⟩ := hchannel hc.1 c hc.2
      simp only [hnew.mpr hc] at hafter
      exact ⟨ClaimHeld.taken hclaim hnone hafter, fun _ => hack⟩
    · rw [if_neg hc]
      refine ⟨ClaimHeld.congr hclaim fun m => ?_, hmode⟩
      rw [hafter]
      by_cases hm : m = e.slot
      · rw [if_pos hm, hm, hslot]
        exact Bool.eq_false_iff.mpr (hc ∘ hnew.mp)
      · rw [if_neg hm]
  | mark hslot => exact hs.setSlot fun c => by rw [hslot]; rfl
  | commitMembers g cause => exact ackClaimsLaw.commitMembers g cause hs
  | discard g => exact ackClaimsLaw.discard g hs
  | launch ch trigger =>
    refine ackClaimsLaw.launch ch trigger (fun t ht => ht.of_eq (fun _ _ => rfl) fun c => ?_)
      (fun _ _ _ hslot ht => ht.setSlot fun c => by rw [hslot]; rfl) hs
    rw [State.channel_setChannel]
    by_cases hc : c = ch <;> simp [hc]
  | @popDone n rest hqueue =>
    refine hs.of_eq (fun m c => s.popDone_view n rest (·.isStrobeOn c) (fun _ _ _ => rfl) m) fun c => ?_
    rw [State.channel_of_channels_eq (s.popDone_channels n rest).1]
    exact ⟨rfl, rfl⟩
  | quiesce =>
    exact ackClaimsLaw.quiesce
      (fun t ht => ht.of_eq (fun n c => by rw [t.emptyGroups_slot]) fun c => by rw [t.emptyGroups_channel]; exact ⟨rfl, rfl⟩)
      (fun t ht => ht.of_eq (fun n c => by rw [t.idleLines_slot]) fun c => by rw [t.idleLines_channel]; exact ⟨rfl, rfl⟩)
      (fun t ht => ht.of_eq (fun _ _ => rfl) fun c => by rw [State.channel_clearMeasurements]; exact ⟨rfl, rfl⟩) hs
  | reset =>
    intro c
    simp [State.reset, State.slot, State.channel, Vector.get_eq_getElem, Slot.isStrobeOn, Channel.afterReset]

/-- Settles O57: a firing takes its claims as its slot becomes ACTIVE, where the checks of R61 found none, and every way
out of ACTIVE releases them. -/
theorem stepKeepsTheClaims : Obligations.StepKeepsTheClaims :=
  ⟨fun _ _ hs hstep => step_keeps (fun _ _ => State.Change.keepsClaims) hs hstep,
    fun _ _ hs hstep => step_keeps (fun _ _ => State.Change.keepsAckClaims) hs hstep⟩

end Sys2Proof.Machine
end

section
/-! Measurement state and the counts in range over every step (Sections 2.1, 6.4, 6.5, 8.2 to 8.4), with the cases in which an
event does nothing: no command waiting (Section 9.2), the timebase STOPPED (Section 2.3), /RESET asserted (Section 9.1). -/

namespace Sys2Proof.Machine

/-! ### Measurement state (R114, R115, R121, R122) -/

/-- Only the ack claim and the parked list of the channel changed. -/
def Channel.SameMeasurement (x y : Channel) : Prop := y = { x with ackClaim := y.ackClaim, parked := y.parked }

theorem Channel.Measured.of_same {x y : Channel} (h : x.Measured) (same : x.SameMeasurement y) : y.Measured := by
  rw [same]
  exact h

theorem State.MeasurementsHold.of_same {s t : State} (h : s.MeasurementsHold)
    (same : ∀ c, (s.channel c).SameMeasurement (t.channel c)) : t.MeasurementsHold :=
  fun c => Channel.Measured.of_same (h c) (same c)

theorem State.MeasurementsHold.of_channels_eq {s t : State} (h : s.MeasurementsHold) (hchannel : ∀ c, t.channel c = s.channel c) :
    t.MeasurementsHold :=
  h.of_same fun c => by rw [hchannel c]; exact rfl

theorem measurementLaw : SlotLaw False State.MeasurementsHold where
  unplaced _ _ hs := hs
  leaves leaves hs := by
    refine State.MeasurementsHold.of_same hs fun c => ?_
    cases leaves with
    | scheduled => exact rfl
    | parked =>
      rw [State.setSlot_channel, State.unpark_channel]
      split <;> exact rfl
    | active =>
      rw [State.setSlot_channel, State.releaseClaims_channel]
      split <;> exact rfl
  enters {s t n h} enters hs := by
    refine State.MeasurementsHold.of_same hs fun c => ?_
    cases enters with
    | complete | scheduled => exact rfl
    | parked =>
      rw [State.park_channel]
      split <;> exact rfl
  group hs := hs

theorem State.Change.keepsMeasurements {s t : State} (change : s.Change t) (hs : s.MeasurementsHold) : t.MeasurementsHold := by
  cases change with
  | quiet same => exact hs.of_channels_eq same.channel
  | log | threshold | time | tick | line | pend | dropHead | mark => exact hs.of_channels_eq fun _ => rfl
  | @channel ch x _ _ hmeasured =>
    intro c
    by_cases hc : c = ch
    · subst hc
      rw [State.channel_setChannel_self]
      exact hmeasured (hs c)
    · rw [State.channel_setChannel, if_neg hc]
      exact hs c
  | clearMeasurements =>
    intro c
    rw [State.channel_clearMeasurements]
    exact Channel.cleared_measured _
  | openInto hfree => exact measurementLaw.openInto _ _ hfree hs
  | placePosted hfree => exact measurementLaw.place _ (by rw [hfree]; rfl) hs
  | cancelOpen hslot => exact measurementLaw.cancelOpen hslot hs
  | move leaves enters => exact measurementLaw.move leaves enters False.elim hs
  | fire =>
    refine hs.of_same fun c => ?_
    rw [State.channel_beginFiring]
    split <;> exact rfl
  | commitMembers g cause => exact measurementLaw.commitMembers g cause hs
  | discard g => exact measurementLaw.discard g hs
  | launch ch trigger =>
    refine hs.of_same fun c => ?_
    rw [State.channel_launch]
    by_cases hc : c = ch
    · rw [if_pos hc, hc]; exact rfl
    · rw [if_neg hc]; exact rfl
  | @popDone n rest => exact hs.of_channels_eq (State.channel_of_channels_eq (s.popDone_channels n rest).1)
  | quiesce =>
    refine measurementLaw.quiesce (fun t ht => ht.of_channels_eq t.emptyGroups_channel)
      (fun t ht => ht.of_channels_eq t.idleLines_channel) (fun t _ c => ?_) hs
    rw [State.channel_clearMeasurements]
    exact Channel.cleared_measured _
  | reset =>
    intro c
    simp [State.reset, State.channel, Vector.get_eq_getElem, Channel.afterReset]

/-- Settles O59: an edge measures only in PERIOD and WIDTH mode, the watch is set with the reference, and what ends either
clears or drops the rest. -/
theorem stepKeepsTheMeasurements : Obligations.StepKeepsTheMeasurements :=
  fun _ _ hs hstep => step_keeps (fun _ _ => State.Change.keepsMeasurements) hs hstep

/-! ### The counts of the reporting unit and of the timebase (R21, R24, R151, R158) -/

/-- The timebase, the capture log and its threshold. -/
def State.counts (s : State) : Timebase × List Capture × Nat := (s.tb, s.log, s.logThreshold)

theorem countsLaw (k : Timebase × List Capture × Nat) : SlotLaw False (fun s => s.counts = k) where
  unplaced _ _ hs := hs
  leaves leaves hs := by
    refine Eq.trans ?_ hs
    cases leaves with
    | scheduled => rfl
    | parked => rw [State.unpark_eq]; rfl
    | active => rw [State.releaseClaims_eq]; rfl
  enters enters hs := by
    refine Eq.trans ?_ hs
    cases enters with
    | complete | scheduled => rfl
    | parked => rw [State.park_eq]; rfl
  group hs := hs

/-- A change that neither counts nor logs leaves these alone, and the others keep their ranges. -/
theorem State.Change.keepsCounts {s t : State} (change : s.Change t) :
    (s.ReportingInBounds → t.ReportingInBounds) ∧ (s.TimebaseInRange → t.TimebaseInRange) := by
  have unchanged (h : t.counts = s.counts) :
      (s.ReportingInBounds → t.ReportingInBounds) ∧ (s.TimebaseInRange → t.TimebaseInRange) := by
    obtain ⟨htb, hlog, hthreshold⟩ : t.tb = s.tb ∧ t.log = s.log ∧ t.logThreshold = s.logThreshold := by
      simpa [State.counts] using h
    exact ⟨fun hs => by rw [State.ReportingInBounds, hlog, hthreshold]; exact hs,
      fun hs => by rw [State.TimebaseInRange, htb]; exact hs⟩
  have law := countsLaw s.counts
  cases change with
  | quiet same => exact unchanged (by simp only [State.counts, same.tb, same.log, same.logThreshold])
  | line | channel | clearMeasurements | pend | dropHead | mark => exact unchanged rfl
  | log hlength => exact ⟨fun hs => ⟨hlength hs.1, hs.2⟩, id⟩
  | threshold hk => exact ⟨fun hs => ⟨hs.1, hk⟩, id⟩
  | time _ hrange => exact ⟨id, hrange⟩
  | tick => exact ⟨id, fun ⟨hlow, hhigh, hcount, _⟩ => ⟨hlow, hhigh, hcount, fun _ => rfl⟩⟩
  | openInto hfree => exact unchanged (law.openInto _ _ hfree rfl)
  | placePosted hfree => exact unchanged (law.place _ (by rw [hfree]; rfl) rfl)
  | cancelOpen hslot => exact unchanged (law.cancelOpen hslot rfl)
  | move leaves enters => exact unchanged (law.move leaves enters False.elim rfl)
  | fire => exact unchanged (by rw [State.beginFiring_eq]; rfl)
  | commitMembers g cause => exact unchanged (law.commitMembers g cause rfl)
  | discard g => exact unchanged (law.discard g rfl)
  | launch ch trigger => exact unchanged (law.launch ch trigger (fun _ ht => ht) (fun _ _ _ _ ht => ht) rfl)
  | popDone => exact unchanged (by unfold State.popDone; split <;> rfl)
  | quiesce =>
    refine unchanged (law.quiesce (fun t ht => Eq.trans ?_ ht) (fun t ht => Eq.trans ?_ ht) (fun t ht => ht) rfl)
    · simp only [State.counts, State.emptyGroups]
    · simp only [State.counts, State.idleLines]
  | reset => exact ⟨fun _ => by decide, fun _ => by decide⟩

/-! ### Events that do nothing -/

theorem State.latched_code {s : State} {code : Byte} (h : s.latched code) : s.cu.code.toNat = code.toNat :=
  congrArg BitVec.toNat h.2

/-- With no command waiting, no execution acts (R173; log 2). -/
theorem exec_executionRow_of_idle {s : State} (hidle : s.cu.busy = false) {c : Instr} (hc : c ∈ executionRows) :
    exec c s = .next s := by
  have hbusy : s.cu.busy ≠ true := Bool.eq_false_iff.mp hidle
  cases c with
  | post | cancel | commit | discard | channel | line | force | lateness | flush | quiesce =>
    exact congrArg Host.Outcome.next (if_neg fun h => hbusy h.1)
  | timebaseStart | timebaseStop | timebaseLoad | timebaseSource
  | inspectSlot | inspectGroup | inspectChannel | inspectLines | inspectTime =>
    exact congrArg Host.Outcome.next (if_neg fun h => hbusy h.1.1)
  | badcmd => exact congrArg Host.Outcome.next (if_neg fun h => hbusy h.1)
  | _ => simp [executionRows] at hc

/-- Settles O15: each row's condition names its own code, and BADCMD's the bytes that are no code. -/
theorem executionNeedsTheTakenCommand : Obligations.ExecutionNeedsTheTakenCommand := by
  intro s
  refine ⟨fun hidle c hc => exec_executionRow_of_idle hidle hc, ?otherCode, fun hbusy hcode => ?badCode,
    fun hlow hhigh => ?goodCode⟩
  case otherCode =>
    simp only [List.forall_mem_cons, List.not_mem_nil, false_imp_iff, implies_true, and_true]
    refine ⟨?_, ?_, ?_, ?_, ?_, ?_, ?_, ?_, ?_, ?_, ?_, ?_, ?_, ?_, ?_, ?_, ?_, ?_, ?_⟩
    case refine_8 | refine_9 | refine_10 | refine_11 | refine_15 | refine_16 | refine_17 | refine_18 | refine_19 =>
      exact fun hne => congrArg Host.Outcome.next (if_neg fun h => hne (State.latched_code h.1))
    all_goals exact fun hne => congrArg Host.Outcome.next (if_neg fun h => hne (State.latched_code h))
  case badCode =>
    have hcode : isCommandCode s.cu.code = false := by simp only [isCommandCode, decide_eq_false_iff_not]; omega
    exact congrArg Host.Outcome.next (if_pos ⟨hbusy, hcode⟩)
  case goodCode =>
    have hcode : isCommandCode s.cu.code = true := by simp only [isCommandCode, decide_eq_true_eq]; omega
    exact congrArg Host.Outcome.next (if_neg fun h => by rw [hcode] at h; exact absurd h.2 (by decide))

theorem edgeFlag_eq (dir : EdgeDir) : edgeFlag dir = (dir == .rising) := by cases dir <;> rfl

/-- Settles O38: every row of time asks for a RUNNING timebase. -/
theorem stoppedTimebaseHoldsEverything : Obligations.StoppedTimebaseHoldsEverything := by
  intro s hstopped
  have hnot : ¬ s.running := fun h => by
    rw [State.running, hstopped] at h
    cases h
  refine ⟨fun pin => congrArg Host.Outcome.next (if_neg fun h => hnot h.1), congrArg Host.Outcome.next (if_neg hnot),
    fun ch => ⟨congrArg Host.Outcome.next (if_neg hnot), congrArg Host.Outcome.next (if_neg fun h => hnot h.1)⟩,
    congrArg Host.Outcome.next ?lead, congrArg Host.Outcome.next ?trailing, fun ch dir => ?edge⟩
  case lead =>
    cases hcalendar : s.calendar with
    | nil => rfl
    | cons e rest => exact if_neg fun h => hnot h.1
  case trailing =>
    cases hcalendar : s.calendar with
    | nil => rfl
    | cons e rest => exact if_neg fun h => hnot h.1
  case edge =>
    refine congrArg Host.Outcome.next ((if_neg hnot).trans ?_)
    rw [edgeFlag_eq]
    rfl

theorem State.access_of_asserted {s : State} (after : State) (h : s.resetPin = .asserted) : s.access after = s := by
  unfold State.access
  rw [h]

theorem State.pop_of_asserted {s : State} (popped : State) (h : s.resetPin = .asserted) :
    s.pop popped = { s with busData := 0 } := by
  unfold State.pop
  split
  · rfl
  · rename_i hreleased
    rw [h] at hreleased
    cases hreleased

/-- Settles O4: the reset values of each block as the model writes them, and accesses that /RESET holds off. -/
theorem hardwareResetState : Obligations.HardwareResetState := by
  refine ⟨fun s => rfl, fun s hasserted => ?_⟩
  have haccess (after : State) : Host.Outcome.next (s.access after) = (.next s : Outcome) :=
    congrArg Host.Outcome.next (State.access_of_asserted after hasserted)
  exact ⟨fun v => ⟨haccess _, haccess _, haccess _, haccess _, haccess _, fun o => haccess _⟩,
    congrArg Host.Outcome.next (State.pop_of_asserted _ hasserted),
    congrArg Host.Outcome.next (State.pop_of_asserted _ hasserted)⟩

/-- Settles O1: `step` is the dispatch on the queue's front. -/
theorem stepRunsFrontOfQueue : Obligations.StepRunsFrontOfQueue := by
  refine ⟨fun c rest s => rfl, fun s hempty => ?_⟩
  unfold step
  rw [hempty]

/-! ### The CMD cause and the level of /RESET (R161, R168) -/

/-- The level of /RESET stands, and the CMD cause is clear while the unit is busy if it was so before. -/
def State.CommandKept (s t : State) : Prop :=
  t.resetPin = s.resetPin ∧ (s.CmdClearWhileBusy → t.CmdClearWhileBusy)

theorem State.CommandKept.of_eq {s t : State} (hreset : t.resetPin = s.resetPin) (hbusy : t.cu.busy = s.cu.busy)
    (hcmd : t.cmdCause = s.cmdCause) : s.CommandKept t :=
  ⟨hreset, fun hs h => hcmd.trans (hs (hbusy ▸ h))⟩

theorem State.CommandKept.refl (s : State) : s.CommandKept s := ⟨rfl, id⟩

theorem State.CommandKept.of_busSide_eq {s t : State} (h : t.busSide = s.busSide) : s.CommandKept t :=
  .of_eq (congrArg Prod.fst h) (congrArg (fun side => side.2.2.2.2.2.1.busy) h) (congrArg (fun side => side.2.2.2.2.1) h)

theorem State.CommandKept.ite {s t u : State} (p : Prop) [Decidable p] (ht : s.CommandKept t) (hu : s.CommandKept u) :
    s.CommandKept (if p then t else u) := by
  split
  · exact ht
  · exact hu

theorem State.CommandKept.access {s after : State} (h : s.CommandKept after) : s.CommandKept (s.access after) := by
  unfold State.access
  split
  · exact .refl s
  · exact h

theorem State.CommandKept.pop {s popped : State} (h : s.CommandKept popped) : s.CommandKept (s.pop popped) := by
  unfold State.pop
  split
  · exact .of_eq rfl rfl rfl
  · exact h

theorem State.commandKept_finish {s : State} {reply : Reply} (h : s.LeavesBusSide reply) : s.CommandKept (s.finish reply) := by
  rcases s.finish_cases reply with ⟨code, -, e⟩ | ⟨after, bytes, hok, e⟩ <;> rw [e]
  · exact ⟨rfl, fun _ h => nomatch h⟩
  · exact ⟨congrArg Prod.fst (h after bytes hok), fun _ h => nomatch h⟩

theorem State.commandKept_writeCmd (s : State) (code : Byte) : s.CommandKept (s.writeCmd code) := by
  unfold State.writeCmd
  split
  · exact .of_eq rfl rfl rfl
  · exact ⟨rfl, fun _ _ => rfl⟩

theorem State.commandKept_writeAckcause (s : State) (v : Byte) : s.CommandKept (s.writeAckcause v) := by
  refine ⟨rfl, fun hs h => ?_⟩
  have hclear : s.cmdCause = false := hs h
  show (s.cmdCause && !v.getLsbD 4) = false
  rw [hclear, Bool.false_and]

theorem State.commandKept_writeCauseen (s : State) (v : Byte) : s.CommandKept (s.writeCauseen v) := .of_eq rfl rfl rfl

theorem State.commandKept_writeLogmark (s : State) (v : Byte) : s.CommandKept (s.writeLogmark v) := .of_eq rfl rfl rfl

theorem State.commandKept_drive (s : State) (b : Byte) : s.CommandKept (s.drive b) := .of_eq rfl rfl rfl

theorem State.commandKept_writeGroupdone (s : State) (v : Byte) : s.CommandKept (s.writeGroupdone v) :=
  .of_eq (by simp only [State.writeGroupdone]) (by simp only [State.writeGroupdone]) (by simp only [State.writeGroupdone])

theorem State.commandKept_writeWindow (s : State) (o : BitVec 5) (v : Byte) : s.CommandKept (s.writeWindow o v) := by
  unfold State.writeWindow
  split
  · exact s.commandKept_writeCmd v
  · exact s.commandKept_writeAckcause v
  · exact s.commandKept_writeCauseen v
  · exact s.commandKept_writeLogmark v
  · exact s.commandKept_writeGroupdone v
  · split
    · exact .of_eq rfl rfl rfl
    · exact .refl s

theorem State.commandKept_popDone (s : State) (n : SlotNo) (rest : List SlotNo) (b : Byte) :
    s.CommandKept ((s.popDone n rest).drive b) := by
  unfold State.popDone
  split <;> exact .of_eq rfl rfl rfl

/-- Every command but a hardware reset keeps the level of /RESET, and CMD clear while the unit is busy. -/
theorem exec_commandKept {c : Instr} {s t : State} (hreset : c ≠ .hardwareReset) (h : exec c s = .next t) :
    s.CommandKept t := by
  have hrow (hc : c ∈ executionRows) : s.CommandKept t := by
    rcases exec_executionRow_idlesOrFinishes s c hc with e | ⟨reply, hleaves, e⟩
    · cases h.symm.trans e
      exact .refl s
    · cases h.symm.trans e
      exact State.commandKept_finish hleaves
  cases c with
  | taking code => cases h; exact (s.commandKept_writeCmd code).access
  | ackcause v => cases h; exact (s.commandKept_writeAckcause v).access
  | causeen v => cases h; exact (s.commandKept_writeCauseen v).access
  | logmark v => cases h; exact (s.commandKept_writeLogmark v).access
  | groupdone v => cases h; exact (s.commandKept_writeGroupdone v).access
  | registerWrite o v => cases h; exact (s.commandKept_writeWindow o v).access
  | donepop =>
    cases h
    refine State.CommandKept.pop (State.CommandKept.ite _ (s.commandKept_drive _) ?_)
    split
    · exact .of_eq rfl rfl rfl
    · exact s.commandKept_popDone _ _ _
  | logpop =>
    cases h
    refine State.CommandKept.pop (State.CommandKept.ite _ (s.commandKept_drive _) ?_)
    split <;> exact .of_eq rfl rfl rfl
  | hardwareReset => exact absurd rfl hreset
  | sourceEdge pin => cases h; exact .ite _ (.of_busSide_eq s.takeDueAdvance_busSide) (.refl s)
  | advance => cases h; exact .ite _ (.of_busSide_eq s.takeDueAdvance_busSide) (.refl s)
  | edge ch dir =>
    cases h
    have hseen : s.CommandKept (s.setPin ch (edgeFlag dir)) := .of_eq rfl rfl rfl
    have hobserved : (s.setPin ch (edgeFlag dir)).CommandKept ((s.setPin ch (edgeFlag dir)).observeEdge ch dir) :=
      .of_busSide_eq (State.observeEdge_busSide _ ch dir)
    exact .ite _ ⟨hobserved.1.trans hseen.1, hobserved.2 ∘ hseen.2⟩ hseen
  | watchExpiry ch => cases h; exact .ite _ (.of_busSide_eq (s.takeReachedWatch_busSide ch)) (.refl s)
  | referenceExpiry ch => cases h; exact .ite _ (.of_busSide_eq (s.takeReachedWatch_busSide ch)) (.refl s)
  | leadRelease =>
    cases h
    split
    · exact .refl s
    · exact .ite _ (.of_busSide_eq (s.releaseLead_busSide _ _)) (.refl s)
  | endRelease =>
    cases h
    split
    · exact .refl s
    · exact .ite _ (.of_busSide_eq (s.releaseEnd_busSide _ _)) (.refl s)
  | _ => exact hrow (by decide)

theorem exec_hardwareReset_released {s t : State} (h : exec .hardwareReset s = .next t) :
    t.resetPin = .released ∧ t.cu.busy = false := by
  cases h
  exact ⟨rfl, rfl⟩

/-! ### While /RESET is asserted (R168, R188) -/

/-- The state that an asserted /RESET holds, whatever the outside and the queue do. -/
def heldInReset (pins : Vector Bool 8) (busData : Byte) (pending : List Instr) : State :=
  { State.reset with resetPin := .asserted, pins := pins, busData := busData, pending := pending }

/-- Nothing but the pins, the byte of a pop and the queue changes while /RESET is asserted and the part holds its reset
values. -/
theorem exec_heldInReset {c : Instr} {pins : Vector Bool 8} {busData : Byte} {pending : List Instr} {t : State}
    (hreset : c ≠ .hardwareReset) (h : exec c (heldInReset pins busData pending) = .next t) :
    ∃ pins' busData', t = heldInReset pins' busData' pending := by
  obtain ⟨haccess, hdone, hlog⟩ := hardwareResetState.2 (heldInReset pins busData pending) rfl
  obtain ⟨hsource, hadvance, hexpiry, hlead, htrail, hedge⟩ :=
    stoppedTimebaseHoldsEverything (heldInReset pins busData pending) rfl
  have hsame (e : exec c (heldInReset pins busData pending) = .next (heldInReset pins busData pending)) :
      ∃ pins' busData', t = heldInReset pins' busData' pending := by
    cases h.symm.trans e
    exact ⟨pins, busData, rfl⟩
  cases c with
  | taking v => exact hsame (haccess v).1
  | ackcause v => exact hsame (haccess v).2.1
  | causeen v => exact hsame (haccess v).2.2.1
  | logmark v => exact hsame (haccess v).2.2.2.1
  | groupdone v => exact hsame (haccess v).2.2.2.2.1
  | registerWrite o v => exact hsame ((haccess v).2.2.2.2.2 o)
  | donepop => cases h.symm.trans hdone; exact ⟨pins, 0, rfl⟩
  | logpop => cases h.symm.trans hlog; exact ⟨pins, 0, rfl⟩
  | hardwareReset => exact absurd rfl hreset
  | sourceEdge pin => exact hsame (hsource pin)
  | advance => exact hsame hadvance
  | edge ch dir => cases h.symm.trans (hedge ch dir); exact ⟨_, busData, rfl⟩
  | watchExpiry ch => exact hsame (hexpiry ch).1
  | referenceExpiry ch => exact hsame (hexpiry ch).2
  | leadRelease => exact hsame hlead
  | endRelease => exact hsame htrail
  | _ => exact hsame (exec_executionRow_of_idle rfl (by decide))

theorem exec_keepsResetHolds {c : Instr} {s t : State} (h : exec c s = .next t) (hs : s.ResetHolds) : t.ResetHolds := by
  intro hasserted
  by_cases hreset : c = .hardwareReset
  · subst hreset
    rw [(exec_hardwareReset_released h).1] at hasserted
    cases hasserted
  · have hheld : s = heldInReset s.pins s.busData s.pending := hs ((exec_commandKept hreset h).1.symm.trans hasserted)
    rw [hheld] at h
    obtain ⟨pins', busData', rfl⟩ := exec_heldInReset hreset h
    rfl

/-- What every command keeps and the taking of it off the queue keeps, a step keeps. -/
theorem step_keeps_of_exec {P : State → Prop} (hqueue : ∀ (s : State) (rest : List Instr), P s → P { s with pending := rest })
    (hexec : ∀ (c : Instr) (s t : State), exec c s = .next t → P s → P t) {s t : State} (hs : P s)
    (hstep : step s = .next t) : P t := by
  unfold step at hstep
  split at hstep
  · cases hstep
    exact hs
  · exact hexec _ _ t hstep (hqueue s _ hs)

/-- Settles O60: the ranges over each change, CMD over each command, and the reset values held while every command but the
reset itself finds /RESET asserted. -/
theorem stepKeepsTheCountsInRange : Obligations.StepKeepsTheCountsInRange := by
  refine ⟨fun s t hs hstep => step_keeps (fun _ _ change => change.keepsCounts.1) hs hstep,
    fun s t hs hstep => step_keeps (fun _ _ change => change.keepsCounts.2) hs hstep, fun s t hs hstep => ?cmd,
    fun s t hs hstep => step_keeps (fun _ _ => State.Change.keepsRemaining) hs hstep, fun s t hs hstep => ?reset⟩
  case cmd =>
    refine step_keeps_of_exec (P := State.CmdClearWhileBusy) (fun _ _ hu => hu) (fun c u v hexec hu => ?_) hs hstep
    by_cases hreset : c = .hardwareReset
    · subst hreset
      intro hbusy
      rw [(exec_hardwareReset_released hexec).2] at hbusy
      cases hbusy
    · exact (exec_commandKept hreset hexec).2 hu
  case reset =>
    refine step_keeps_of_exec (P := State.ResetHolds) (fun u rest hu hasserted => ?_)
      (fun _ _ _ hexec hu => exec_keepsResetHolds hexec hu) hs hstep
    exact congrArg (fun v : State => { v with pending := rest }) (hu hasserted)

end Sys2Proof.Machine
end

section
/-! The due commits of one event (Sections 5.4 and 5.5): seven rounds leave none due, and a round executes the lowest-numbered
due group. -/

namespace Sys2Proof.Machine

/-! ### What is due -/

/-- What a PENDING group owes (R87, R99, R100). -/
theorem State.dueCommit_of_pending {s : State} {g : GroupNo} {anchor : SlotNo} {replace : Bool}
    (h : (s.group g).state = .pending anchor replace) (fired : List GroupNo) :
    s.dueCommit fired g =
      if g ∈ fired then some (replace, .anchorFired)
      else if (s.slot anchor).isLive = true then none else some (replace, .anchorEnded) := by
  unfold State.dueCommit
  simp only [h, List.contains_iff_mem]

theorem State.dueCommit_of_not_pending {s : State} {g : GroupNo} (h : ∀ anchor replace, (s.group g).state ≠ .pending anchor replace)
    (fired : List GroupNo) : s.dueCommit fired g = none := by
  unfold State.dueCommit
  split
  · rename_i anchor replace hstate
    exact absurd hstate (h anchor replace)
  · rfl

/-- A due group is PENDING; the commit has its replace flag, and the cause of its set. -/
theorem State.pending_of_dueCommit {s : State} {fired : List GroupNo} {g : GroupNo} {replace : Bool} {cause : CommitCause}
    (h : s.dueCommit fired g = some (replace, cause)) :
    ∃ anchor, (s.group g).state = .pending anchor replace ∧
      (g ∈ fired ∧ cause = .anchorFired ∨ g ∉ fired ∧ (s.slot anchor).isLive = false ∧ cause = .anchorEnded) := by
  by_cases hpending : ∃ anchor r, (s.group g).state = .pending anchor r
  · obtain ⟨anchor, r, hstate⟩ := hpending
    rw [State.dueCommit_of_pending hstate] at h
    split at h
    · cases h
      exact ⟨anchor, hstate, .inl ⟨‹_›, rfl⟩⟩
    split at h
    · cases h
    · cases h
      exact ⟨anchor, hstate, .inr ⟨‹_›, Bool.eq_false_iff.mpr ‹_›, rfl⟩⟩
  · rw [State.dueCommit_of_not_pending fun anchor r hstate => hpending ⟨anchor, r, hstate⟩] at h
    cases h

/-- The lowest-numbered due group of a round, with its commit (R101). -/
def State.firstDue (s : State) (fired : List GroupNo) : Option (GroupNo × Bool × CommitCause) :=
  groupNumbers.findSome? (fun g => (s.dueCommit fired g).map (fun d => (g, d)))

theorem State.runCommits_succ (rounds : Nat) (fired : List GroupNo) (s : State) :
    State.runCommits (rounds + 1) fired s =
      match s.firstDue fired with
      | none => s
      | some (g, replace, cause) => State.runCommits rounds fired (s.commitGroup g replace cause) := rfl

theorem State.firstDue_eq_none_iff (s : State) (fired : List GroupNo) :
    s.firstDue fired = none ↔ ∀ g, s.dueCommit fired g = none := by
  simp [State.firstDue, groupNumbers]

theorem State.firstDue_due {s : State} {fired : List GroupNo} {g : GroupNo} {replace : Bool} {cause : CommitCause}
    (h : s.firstDue fired = some (g, replace, cause)) : s.dueCommit fired g = some (replace, cause) := by
  obtain ⟨k, -, hk⟩ := List.exists_of_findSome?_eq_some h
  obtain ⟨d, hd, heq⟩ := Option.map_eq_some_iff.mp hk
  cases heq
  exact hd

/-- The first due group is the lowest-numbered one. -/
theorem State.firstDue_of_lowest {s : State} {fired : List GroupNo} {g : GroupNo} {replace : Bool} {cause : CommitCause}
    (hdue : s.dueCommit fired g = some (replace, cause)) (hlowest : ∀ k < g, s.dueCommit fired k = none) :
    s.firstDue fired = some (g, replace, cause) := by
  have hsplit : groupNumbers = (List.finRange 7).take g.val ++ g :: (List.finRange 7).drop (g.val + 1) := by
    have hlen : g.val < (List.finRange 7).length := by rw [List.length_finRange]; exact g.isLt
    have hget : (List.finRange 7)[g.val]'hlen = g := by simp
    conv_lhs => rw [groupNumbers, ← List.take_append_drop g.val (List.finRange 7), List.drop_eq_getElem_cons hlen, hget]
  have hbefore : ((List.finRange 7).take g.val).findSome? (fun g => (s.dueCommit fired g).map (fun d => (g, d))) = none := by
    rw [List.findSome?_eq_none_iff]
    intro k hk
    obtain ⟨i, hi, rfl⟩ := List.mem_iff_getElem.mp hk
    rw [List.length_take] at hi
    have hlt : (((List.finRange 7).take g.val)[i]'(by rw [List.length_take]; exact hi)) < g := by
      rw [List.getElem_take, List.getElem_finRange]
      exact Fin.lt_def.mpr (lt_of_lt_of_le hi (Nat.min_le_left _ _))
    rw [hlowest _ hlt]
    rfl
  rw [State.firstDue, hsplit, List.findSome?_append, hbefore, List.findSome?_cons, hdue]
  rfl

/-! ### Seven rounds suffice -/

/-- The group is PENDING. -/
def Group.isPending (x : Group) : Bool :=
  match x.state with
  | .pending _ _ => true
  | _ => false

/-- The groups that are PENDING. -/
def State.pendingGroups (s : State) : Finset GroupNo := Finset.univ.filter (fun g => (s.group g).isPending = true)

theorem State.mem_pendingGroups_of_due {s : State} {fired : List GroupNo} {g : GroupNo} {d : Bool × CommitCause}
    (h : s.dueCommit fired g = some d) : g ∈ s.pendingGroups := by
  obtain ⟨anchor, hstate, -⟩ := State.pending_of_dueCommit (replace := d.1) (cause := d.2) h
  exact Finset.mem_filter.mpr ⟨Finset.mem_univ g, by simp only [Group.isPending, hstate]⟩

theorem State.pendingGroups_commitGroup (s : State) (g : GroupNo) (replace : Bool) (cause : CommitCause) :
    (s.commitGroup g replace cause).pendingGroups = s.pendingGroups.erase g := by
  ext k
  simp only [State.pendingGroups, Finset.mem_filter, Finset.mem_univ, true_and, Finset.mem_erase, State.commitGroup_group]
  by_cases hk : k = g <;> simp [hk, Group.isPending]

theorem State.card_pendingGroups_le (s : State) : s.pendingGroups.card ≤ 7 := by
  exact Finset.card_le_univ s.pendingGroups

theorem State.card_pendingGroups_commitGroup {s : State} {fired : List GroupNo} {g : GroupNo} {replace : Bool}
    {cause : CommitCause} (h : s.dueCommit fired g = some (replace, cause)) :
    (s.commitGroup g replace cause).pendingGroups.card + 1 = s.pendingGroups.card := by
  rw [State.pendingGroups_commitGroup]
  exact Finset.card_erase_add_one (State.mem_pendingGroups_of_due h)

/-- The commits that run from `s` to `t`: due ones, until none is due. -/
inductive State.Runs (fired : List GroupNo) : State → State → Prop where
  | done {s : State} (hnone : ∀ g, s.dueCommit fired g = none) : State.Runs fired s s
  | commit {s t : State} {g : GroupNo} {replace : Bool} {cause : CommitCause}
    (hdue : s.dueCommit fired g = some (replace, cause)) (hrest : State.Runs fired (s.commitGroup g replace cause) t) :
    State.Runs fired s t

theorem State.runs_runCommits (fired : List GroupNo) (rounds : Nat) (s : State) (h : s.pendingGroups.card ≤ rounds) :
    State.Runs fired s (State.runCommits rounds fired s) := by
  induction rounds generalizing s with
  | zero =>
    refine .done fun g => Option.eq_none_iff_forall_ne_some.mpr fun d hd => ?_
    have := Finset.card_pos.mpr ⟨g, State.mem_pendingGroups_of_due hd⟩
    omega
  | succ k ih =>
    rw [State.runCommits_succ]
    cases hfirst : s.firstDue fired with
    | none => exact .done ((s.firstDue_eq_none_iff fired).mp hfirst)
    | some d =>
      obtain ⟨g, replace, cause⟩ := d
      have hdue := State.firstDue_due hfirst
      have hcard := State.card_pendingGroups_commitGroup hdue
      exact .commit hdue (ih _ (by omega))

theorem State.runs_runEndedCommits (s : State) : State.Runs [] s s.runEndedCommits :=
  State.runs_runCommits [] 7 s s.card_pendingGroups_le

theorem State.runs_runFiredCommits (s : State) (n : SlotNo) : State.Runs (s.pendingOn n) s (s.runFiredCommits n) :=
  State.runs_runCommits _ 7 s s.card_pendingGroups_le

theorem State.Runs.none_due {fired : List GroupNo} {s t : State} (h : State.Runs fired s t) (g : GroupNo) :
    t.dueCommit fired g = none := by
  induction h with
  | done hnone => exact hnone g
  | commit _ _ ih => exact ih

/-- Where the commits have run, every PENDING group has a live anchor (R87). -/
theorem State.Runs.anchorsLive {fired : List GroupNo} {s t : State} (h : State.Runs fired s t) : t.AnchorsLive := by
  intro g
  split
  · rename_i anchor replace hstate
    have hnone := h.none_due g
    rw [State.dueCommit_of_pending hstate] at hnone
    split at hnone
    · cases hnone
    split at hnone
    · assumption
    · cases hnone
  · trivial

/-- A round more than there are PENDING groups changes nothing. -/
theorem State.runCommits_succ_eq (fired : List GroupNo) (rounds : Nat) (s : State) (h : s.pendingGroups.card ≤ rounds) :
    State.runCommits (rounds + 1) fired s = State.runCommits rounds fired s := by
  induction rounds generalizing s with
  | zero =>
    refine State.runCommits_of_none_due 1 fired s fun g => Option.eq_none_iff_forall_ne_some.mpr fun d hd => ?_
    have := Finset.card_pos.mpr ⟨g, State.mem_pendingGroups_of_due hd⟩
    omega
  | succ k ih =>
    rw [State.runCommits_succ, State.runCommits_succ k]
    cases hfirst : s.firstDue fired with
    | none => rfl
    | some d =>
      obtain ⟨g, replace, cause⟩ := d
      have hcard := State.card_pendingGroups_commitGroup (State.firstDue_due hfirst)
      exact ih _ (by omega)

/-- The first round: the commit of the lowest-numbered due group, and then as many rounds as before. -/
theorem State.runCommits_of_lowest {s : State} {fired : List GroupNo} {g : GroupNo} {replace : Bool} {cause : CommitCause}
    (hdue : s.dueCommit fired g = some (replace, cause)) (hlowest : ∀ k < g, s.dueCommit fired k = none) :
    State.runCommits 7 fired s = State.runCommits 7 fired (s.commitGroup g replace cause) := by
  have hcard := State.card_pendingGroups_commitGroup hdue
  have hle := s.card_pendingGroups_le
  rw [State.runCommits_succ, State.firstDue_of_lowest hdue hlowest]
  exact (State.runCommits_succ_eq fired 6 _ (by omega)).symm

end Sys2Proof.Machine
end

section
/-! Live anchors over every step (Section 5.1): what ends no anchor keeps them, and an event that ends one executes the commits
pending on it. -/

namespace Sys2Proof.Machine

/-- No live slot ends, and a group that is PENDING afterwards was so before on the same anchor. -/
structure State.KeepsAnchors (s t : State) : Prop where
  live : ∀ n, (s.slot n).isLive = true → (t.slot n).isLive = true
  group : ∀ g, (t.group g).state = (s.group g).state ∨ (t.group g).isPending = false

theorem State.AnchorsLive.anchor {s : State} (h : s.AnchorsLive) {g : GroupNo} {anchor : SlotNo} {replace : Bool}
    (hstate : (s.group g).state = .pending anchor replace) : (s.slot anchor).isLive = true := by
  have hg := h g
  rwa [hstate] at hg

theorem State.anchorsLive_iff (s : State) :
    s.AnchorsLive ↔ ∀ g anchor replace, (s.group g).state = .pending anchor replace → (s.slot anchor).isLive = true := by
  refine ⟨fun h g anchor replace hstate => h.anchor hstate, fun h g => ?_⟩
  split
  · rename_i anchor replace hstate
    exact h g anchor replace hstate
  · trivial

namespace State.KeepsAnchors

theorem anchorsLive {s t : State} (h : s.KeepsAnchors t) (hs : s.AnchorsLive) : t.AnchorsLive := by
  refine t.anchorsLive_iff.mpr fun g anchor replace hstate => ?_
  rcases h.group g with hsame | hnone
  · exact h.live anchor (hs.anchor (hsame ▸ hstate))
  · simp [Group.isPending, hstate] at hnone

theorem refl (s : State) : s.KeepsAnchors s := ⟨fun _ h => h, fun _ => .inl rfl⟩

theorem trans {s t u : State} (h : s.KeepsAnchors t) (k : t.KeepsAnchors u) : s.KeepsAnchors u := by
  refine ⟨fun n hn => k.live n (h.live n hn), fun g => ?_⟩
  rcases k.group g with hsame | hnone
  · rcases h.group g with hbefore | hbefore
    · exact .inl (hsame.trans hbefore)
    · exact .inr (by simpa only [Group.isPending, hsame] using hbefore)
  · exact .inr hnone

theorem of_eq {s t : State} (hslot : ∀ n, t.slot n = s.slot n) (hgroup : ∀ g, (t.group g).state = (s.group g).state) :
    s.KeepsAnchors t :=
  ⟨fun n h => by rw [hslot]; exact h, fun g => .inl (hgroup g)⟩

/-- Nothing of the slots and the groups changes. -/
theorem of_fields {s t : State} (hslots : t.slots = s.slots) (hgroups : t.groups = s.groups) : s.KeepsAnchors t :=
  of_eq (fun n => by simp only [State.slot, hslots]) fun g => by rw [State.group_of_groups_eq hgroups]

theorem ite {s t u : State} (p : Prop) [Decidable p] (ht : s.KeepsAnchors t) (hu : s.KeepsAnchors u) :
    s.KeepsAnchors (if p then t else u) := by
  split
  · exact ht
  · exact hu

/-- A slot that is not live is rewritten. -/
theorem rewrite {s t : State} {n : SlotNo} {x : Slot} (hdead : (s.slot n).isLive = false)
    (hslot : ∀ m, t.slot m = if m = n then x else s.slot m)
    (hgroup : ∀ g, (t.group g).state = (s.group g).state ∨ (t.group g).isPending = false) : s.KeepsAnchors t := by
  refine ⟨fun m hm => ?_, hgroup⟩
  rw [hslot]
  by_cases heq : m = n
  · rw [heq, hdead] at hm
    cases hm
  · rw [if_neg heq]
    exact hm

end State.KeepsAnchors

/-! ### The operations that end no anchor -/

theorem State.Logged.keepsAnchors {s t : State} (h : s.Logged t) : s.KeepsAnchors t := by
  obtain ⟨l, rfl, -⟩ := h
  exact .of_fields rfl rfl

theorem State.keepsAnchors_launch (s : State) (ch : ChanNo) (trigger : Tick) : s.KeepsAnchors (s.launch ch trigger) := by
  refine ⟨fun n hn => ?_, fun g => .inl (by rw [State.group_of_groups_eq (s.launch_untouched ch trigger).2.1])⟩
  rw [State.slot_launch]
  split
  · cases hslot : s.slot n with
    | parked h => rfl
    | _ => rw [hslot] at hn; exact hn
  · exact hn

theorem State.keepsAnchors_setChannel (s : State) (c : ChanNo) (x : Channel) : s.KeepsAnchors (s.setChannel c x) :=
  .of_fields rfl rfl

theorem State.keepsAnchors_launch_if {s u : State} (p : Prop) [Decidable p] (ch : ChanNo) (trigger : Tick)
    (h : s.KeepsAnchors u) : s.KeepsAnchors (if p then u.launch ch trigger else u) :=
  .ite _ (h.trans (u.keepsAnchors_launch ch trigger)) h

theorem State.keepsAnchors_expireWatch (s : State) (ch : ChanNo) (d : Tick) : s.KeepsAnchors (s.expireWatch ch d) :=
  State.keepsAnchors_launch_if _ ch d ((s.logged_logChannel ch _).keepsAnchors.trans (State.keepsAnchors_setChannel _ ch _))

theorem State.keepsAnchors_takeReachedWatch (s : State) (ch : ChanNo) : s.KeepsAnchors (s.takeReachedWatch ch) := by
  unfold State.takeReachedWatch
  split
  · exact .refl s
  · exact s.keepsAnchors_expireWatch ch _

theorem State.keepsAnchors_catchUp (s : State) (ch : ChanNo) : s.KeepsAnchors (s.catchUp ch) := by
  have hdropped (u : State) (hu : s.KeepsAnchors u) (p : Prop) [Decidable p] :
      s.KeepsAnchors (if p then u.dropReference ch else u) :=
    .ite _ (hu.trans (u.keepsAnchors_setChannel ch _)) hu
  have hwatched (d : Tick) : s.KeepsAnchors (if distance s.now d < 0 then s.expireWatch ch d else s) :=
    .ite _ (s.keepsAnchors_expireWatch ch d) (.refl s)
  unfold State.catchUp
  cases (s.channel ch).watch with
  | none =>
    cases (s.channel ch).reference with
    | none => exact .refl s
    | some r => exact hdropped s (.refl s) _
  | some d =>
    cases (s.channel ch).reference with
    | none => exact hwatched d
    | some r => exact hdropped _ (hwatched d) _

theorem State.keepsAnchors_openInterval (s : State) (ch : ChanNo) : s.KeepsAnchors (s.openInterval ch) :=
  State.keepsAnchors_launch_if _ ch _ (s.keepsAnchors_setChannel ch _)

theorem State.keepsAnchors_periodEdge (s : State) (ch : ChanNo) (dir : EdgeDir) : s.KeepsAnchors (s.periodEdge ch dir) := by
  unfold State.periodEdge
  split
  · exact s.keepsAnchors_openInterval ch
  · exact State.keepsAnchors_launch_if _ ch _
      ((s.logged_logChannel ch _).keepsAnchors.trans (State.keepsAnchors_setChannel _ ch _))

theorem State.keepsAnchors_widthClose (s : State) (ch : ChanNo) (dir : EdgeDir) : s.KeepsAnchors (s.widthClose ch dir) := by
  unfold State.widthClose
  split
  · exact .refl s
  · exact State.keepsAnchors_launch_if _ ch _
      ((s.logged_logChannel ch _).keepsAnchors.trans (State.keepsAnchors_setChannel _ ch _))

/-! ### What every command does to the anchors -/

/-- Live anchors before make live anchors after. -/
structure State.AnchorsKept (s t : State) : Prop where
  holds : s.AnchorsLive → t.AnchorsLive

theorem State.KeepsAnchors.kept {s t : State} (h : s.KeepsAnchors t) : s.AnchorsKept t := ⟨h.anchorsLive⟩

theorem State.anchorsKept_runEndedCommits (s u : State) : s.AnchorsKept u.runEndedCommits :=
  ⟨fun _ => u.runs_runEndedCommits.anchorsLive⟩

theorem State.AnchorsKept.ite {s t u : State} (p : Prop) [Decidable p] (ht : s.AnchorsKept t) (hu : s.AnchorsKept u) :
    s.AnchorsKept (if p then t else u) := by
  split
  · exact ht
  · exact hu

/-- The state that an accepted command leaves keeps live anchors. -/
def State.RepliesKeepingAnchors (s : State) (reply : Reply) : Prop :=
  ∀ after bytes, reply = .ok (after, bytes) → s.AnchorsKept after

theorem State.repliesKeepingAnchors_error (s : State) (code : ResultCode) : s.RepliesKeepingAnchors (.error code) :=
  fun _ _ h => nomatch h

theorem State.repliesKeepingAnchors_ok {s after : State} {bytes : List Byte} (h : s.AnchorsKept after) :
    s.RepliesKeepingAnchors (.ok (after, bytes)) := by
  intro _ _ heq
  cases heq
  exact h

theorem State.repliesKeepingAnchors_check {s : State} (failed : Prop) [Decidable failed] (code : ResultCode) {reply : Reply}
    (h : ¬ failed → s.RepliesKeepingAnchors reply) : s.RepliesKeepingAnchors (if failed then .error code else reply) := by
  split
  · exact s.repliesKeepingAnchors_error code
  · exact h ‹_›

theorem State.anchorsKept_finish {s : State} {reply : Reply} (h : s.RepliesKeepingAnchors reply) (waiting : Prop)
    [Decidable waiting] : s.AnchorsKept (if waiting then s.finish reply else s) := by
  refine State.AnchorsKept.ite _ ?_ ⟨id⟩
  rcases s.finish_cases reply with ⟨code, -, e⟩ | ⟨after, bytes, hok, e⟩ <;> rw [e]
  · exact ⟨id⟩
  · exact ⟨(h after bytes hok).holds⟩

theorem State.repliesKeepingAnchors_post (s : State) : s.RepliesKeepingAnchors s.replyPost := by
  unfold State.replyPost
  split
  · exact s.repliesKeepingAnchors_error _
  rename_i a n hcheck
  obtain ⟨kind, mode, -, -, -, -, -, hfree, -, -⟩ := State.checkPost_eq_ok hcheck
  have hdead : (s.slot n).isLive = false := by rw [State.firstFree_eq_some hfree]; rfl
  refine State.repliesKeepingAnchors_ok (State.KeepsAnchors.kept ?_)
  unfold State.takeSlot
  cases a.group with
  | none => exact .rewrite hdead (fun m => s.slot_place n m _) fun g => .inl (by rw [State.group_of_groups_eq (s.place_groups n _)])
  | some g =>
    refine .rewrite hdead (fun m => s.slot_setSlot n m (.opened a.posted)) fun k => ?_
    have hgroup : (s.openInto n a.posted g).group k = if k = g then _ else s.group k := State.group_setGroup _ g k _
    simp only at hgroup ⊢
    rw [hgroup]
    by_cases hk : k = g
    · rw [if_pos hk, hk, State.setSlot_group]
      cases hstate : (s.group g).state with
      | empty => exact .inr (by simp [Group.isPending])
      | _ => exact .inl rfl
    · rw [if_neg hk]
      exact .inl rfl

theorem State.keepsAnchors_cancelOpen (s : State) {n : SlotNo} {h : Held} (hslot : s.slot n = .opened h) :
    s.KeepsAnchors (s.cancelOpen n h) := by
  have hdead : (s.slot n).isLive = false := by rw [hslot]; rfl
  unfold State.cancelOpen
  split
  · exact .rewrite hdead (fun m => s.slot_setSlot n m _) fun _ => .inl rfl
  · rename_i g _
    refine .rewrite hdead (fun m => s.slot_setSlot n m .free) fun k => ?_
    by_cases hk : k = g
    · rw [hk, State.group_setGroup_self, Group.dropMember_eq]
      by_cases hlast : (s.group g).openList.filter (· != n) = [] ∧ (s.group g).state = .filling
      · exact .inr (by simp only [Group.isPending, if_pos hlast])
      · exact .inl (if_neg hlast)
    · rw [State.group_setGroup, if_neg hk]
      exact .inl rfl

theorem State.repliesKeepingAnchors_cancel (s : State) : s.RepliesKeepingAnchors s.replyCancel := by
  unfold State.replyCancel
  split
  · exact s.repliesKeepingAnchors_error _
  rename_i n _
  split
  · exact s.repliesKeepingAnchors_error _
  rename_i after hcancel
  refine State.repliesKeepingAnchors_ok ?_
  unfold State.cancelSlot at hcancel
  cases hslot : s.slot n with
  | free | complete _ _ _ => rw [hslot] at hcancel; cases hcancel
  | opened h => rw [hslot] at hcancel; cases hcancel; exact (s.keepsAnchors_cancelOpen hslot).kept
  | scheduled | parked | active => rw [hslot] at hcancel; cases hcancel; exact State.anchorsKept_runEndedCommits s _

theorem State.repliesKeepingAnchors_commit (s : State) : s.RepliesKeepingAnchors s.replyCommit := by
  unfold State.replyCommit
  split
  · exact s.repliesKeepingAnchors_error _
  refine State.repliesKeepingAnchors_check _ _ fun _ => State.repliesKeepingAnchors_check _ _ fun _ => ?_
  split
  · exact s.repliesKeepingAnchors_error _
  refine State.repliesKeepingAnchors_check _ _ fun _ => ?_
  split
  · exact State.repliesKeepingAnchors_ok (State.anchorsKept_runEndedCommits s _)
  split
  · exact s.repliesKeepingAnchors_error _
  rename_i anchor _
  split
  · rename_i hlive
    refine State.repliesKeepingAnchors_ok ⟨fun hs => (State.anchorsLive_iff _).mpr fun k a r hstate => ?_⟩
    have hgroup := State.group_setGroup s _ k _ ▸ hstate
    split at hgroup
    · cases hgroup
      exact hlive
    · exact hs.anchor hgroup
  · exact s.repliesKeepingAnchors_error _

theorem State.keepsAnchors_freeOpens (s : State) (l : List SlotNo) : s.KeepsAnchors (l.foldl State.freeOpen s) := by
  refine foldl_invariant State.freeOpen (s.KeepsAnchors ·) (fun t n ht => ht.trans ?_) l s (.refl s)
  unfold State.freeOpen
  cases hslot : t.slot n with
  | opened h => exact .rewrite (by rw [hslot]; rfl) (fun m => t.slot_setSlot n m _) fun _ => .inl rfl
  | _ => exact .refl t

theorem State.repliesKeepingAnchors_discard (s : State) : s.RepliesKeepingAnchors s.replyDiscard := by
  unfold State.replyDiscard
  split
  · exact s.repliesKeepingAnchors_error _
  rename_i g _
  refine State.repliesKeepingAnchors_ok (State.KeepsAnchors.kept ((s.keepsAnchors_freeOpens (s.group g).openList).trans ?_))
  refine ⟨fun _ h => h, fun k => ?_⟩
  by_cases hk : k = g
  · rw [hk, State.group_setGroup_self]
    exact .inr rfl
  · rw [State.group_setGroup, if_neg hk]
    exact .inl rfl

theorem State.repliesKeepingAnchors_channel (s : State) : s.RepliesKeepingAnchors s.replyChannel := by
  unfold State.replyChannel
  split
  · exact s.repliesKeepingAnchors_error _
  split
  · exact s.repliesKeepingAnchors_error _
  exact State.repliesKeepingAnchors_check _ _ fun _ => State.repliesKeepingAnchors_ok ⟨id⟩

theorem State.repliesKeepingAnchors_line (s : State) : s.RepliesKeepingAnchors s.replyLine := by
  unfold State.replyLine
  split
  · exact s.repliesKeepingAnchors_error _
  split
  · exact s.repliesKeepingAnchors_error _
  exact State.repliesKeepingAnchors_check _ _ fun _ => State.repliesKeepingAnchors_ok ⟨id⟩

theorem State.repliesKeepingAnchors_force (s : State) : s.RepliesKeepingAnchors s.replyForce := by
  unfold State.replyForce
  split
  · exact s.repliesKeepingAnchors_error _
  split
  · exact s.repliesKeepingAnchors_error _
  simp only
  split
  · exact State.repliesKeepingAnchors_ok ⟨id⟩
  · exact State.repliesKeepingAnchors_check _ _ fun _ =>
      State.repliesKeepingAnchors_ok (State.anchorsKept_runEndedCommits s _)

theorem State.repliesKeepingAnchors_timebase (s : State) {operate : State → State} (h : s.AnchorsKept (operate s)) :
    s.RepliesKeepingAnchors (s.replyTimebase operate) := by
  unfold State.replyTimebase
  split
  · exact s.repliesKeepingAnchors_error _
  · exact State.repliesKeepingAnchors_ok h

theorem State.anchorsKept_applySource (s : State) : s.AnchorsKept s.applySource := by
  unfold State.applySource
  split <;> exact ⟨id⟩

theorem State.anchorsKept_quiesced (s : State) : s.AnchorsKept s.quiesced := by
  refine ⟨fun _ => ?_⟩
  rw [State.anchorsLive_iff]
  intro g anchor replace hstate
  rw [State.group_quiesced] at hstate
  cases hstate

theorem State.repliesKeepingAnchors_quiesce (s : State) : s.RepliesKeepingAnchors s.replyQuiesce := by
  intro after bytes hreply
  simp only [State.replyQuiesce, Except.ok.injEq, Prod.mk.injEq] at hreply
  rw [← hreply.1]
  exact s.anchorsKept_quiesced

theorem State.repliesKeepingAnchors_inspect (s : State) (view : Except ResultCode (List Byte)) :
    s.RepliesKeepingAnchors (s.replyInspect view) := by
  refine State.repliesKeepingAnchors_check _ _ fun _ => ?_
  split
  · exact s.repliesKeepingAnchors_error _
  · exact State.repliesKeepingAnchors_ok ⟨id⟩

theorem State.AnchorsKept.access {s after : State} (h : s.AnchorsKept after) : s.AnchorsKept (s.access after) := by
  unfold State.access
  split
  · exact ⟨id⟩
  · exact h

theorem State.AnchorsKept.pop {s popped : State} (h : s.AnchorsKept popped) : s.AnchorsKept (s.pop popped) := by
  unfold State.pop
  split
  · exact ⟨id⟩
  · exact h

theorem State.anchorsKept_writeGroupdone (s : State) (v : Byte) : s.AnchorsKept (s.writeGroupdone v) := by
  refine State.KeepsAnchors.kept (.of_eq (fun n => by simp only [State.slot, State.writeGroupdone]) fun g => ?_)
  rw [State.group_writeGroupdone]

theorem State.anchorsKept_writeCmd (s : State) (code : Byte) : s.AnchorsKept (s.writeCmd code) :=
  State.AnchorsKept.ite _ ⟨id⟩ ⟨id⟩

theorem State.anchorsKept_writeWindow (s : State) (o : BitVec 5) (v : Byte) : s.AnchorsKept (s.writeWindow o v) := by
  unfold State.writeWindow
  split
  · exact s.anchorsKept_writeCmd v
  · exact ⟨id⟩
  · exact ⟨id⟩
  · exact ⟨id⟩
  · exact s.anchorsKept_writeGroupdone v
  · split <;> exact ⟨id⟩

theorem State.anchorsKept_popDone (s : State) (n : SlotNo) (rest : List SlotNo) : s.AnchorsKept (s.popDone n rest) := by
  refine State.KeepsAnchors.kept ⟨fun m hm => ?_, fun g => .inl (by rw [State.group_of_groups_eq (s.popDone_groups n rest)])⟩
  rw [s.popDone_view n rest Slot.isLive (fun _ _ _ => rfl) m]
  exact hm

theorem State.anchorsKept_observeEdge (s : State) (ch : ChanNo) (dir : EdgeDir) : s.AnchorsKept (s.observeEdge ch dir) := by
  have hcaught := s.keepsAnchors_catchUp ch
  unfold State.observeEdge
  simp only
  cases (s.channel ch).mode with
  | off => exact ⟨id⟩
  | stamp =>
    exact .ite _ (State.keepsAnchors_launch_if _ ch _ (s.logged_logChannel ch _).keepsAnchors).kept ⟨id⟩
  | period => exact .ite _ (hcaught.trans (State.keepsAnchors_periodEdge _ ch dir)).kept ⟨id⟩
  | width =>
    exact .ite _ (hcaught.trans (State.keepsAnchors_openInterval _ ch)).kept
      (hcaught.trans (State.keepsAnchors_widthClose _ ch dir)).kept
  | ack =>
    refine .ite _ ?_ ⟨id⟩
    unfold State.ackEdge
    split
    · unfold State.acknowledge
      simp only
      split
      · exact State.anchorsKept_runEndedCommits s _
      · exact ((s.logged_logChannel ch _).keepsAnchors.trans (State.keepsAnchors_setChannel _ ch _)).kept
    · exact (s.logged_logChannel ch _).keepsAnchors.kept

theorem State.anchorsKept_releaseLead (s : State) (e : Entry) (rest : List Entry) : s.AnchorsKept (s.releaseLead e rest) := by
  unfold State.releaseLead
  split
  · exact ⟨fun _ => (State.runs_runFiredCommits _ e.slot).anchorsLive⟩
  · exact ⟨id⟩

theorem State.anchorsKept_releaseEnd (s : State) (e : Entry) (rest : List Entry) : s.AnchorsKept (s.releaseEnd e rest) := by
  unfold State.releaseEnd
  split
  · exact .ite _ (State.anchorsKept_runEndedCommits s _) (State.anchorsKept_runEndedCommits s _)
  · exact ⟨id⟩

theorem State.anchorsKept_takeDueAdvance (s : State) : s.AnchorsKept s.takeDueAdvance :=
  State.AnchorsKept.ite _ ⟨id⟩ ⟨id⟩

/-- Every command keeps live anchors. -/
theorem exec_anchorsKept {c : Instr} {s t : State} (h : exec c s = .next t) : s.AnchorsKept t := by
  cases c with
  | taking code => cases h; exact (s.anchorsKept_writeCmd code).access
  | post => cases h; exact State.anchorsKept_finish s.repliesKeepingAnchors_post _
  | cancel => cases h; exact State.anchorsKept_finish s.repliesKeepingAnchors_cancel _
  | commit => cases h; exact State.anchorsKept_finish s.repliesKeepingAnchors_commit _
  | discard => cases h; exact State.anchorsKept_finish s.repliesKeepingAnchors_discard _
  | channel => cases h; exact State.anchorsKept_finish s.repliesKeepingAnchors_channel _
  | line => cases h; exact State.anchorsKept_finish s.repliesKeepingAnchors_line _
  | force => cases h; exact State.anchorsKept_finish s.repliesKeepingAnchors_force _
  | timebaseStart | timebaseStop | timebaseLoad =>
    cases h; exact State.anchorsKept_finish (s.repliesKeepingAnchors_timebase ⟨id⟩) _
  | timebaseSource =>
    cases h; exact State.anchorsKept_finish (s.repliesKeepingAnchors_timebase s.anchorsKept_applySource) _
  | lateness => cases h; exact State.anchorsKept_finish (s := s) (reply := s.replyLateness) (State.repliesKeepingAnchors_ok ⟨id⟩) _
  | flush => cases h; exact State.anchorsKept_finish (s := s) (reply := s.replyFlush) (State.repliesKeepingAnchors_ok ⟨id⟩) _
  | quiesce => cases h; exact State.anchorsKept_finish s.repliesKeepingAnchors_quiesce _
  | inspectSlot | inspectGroup | inspectChannel | inspectLines | inspectTime =>
    cases h; exact State.anchorsKept_finish (s.repliesKeepingAnchors_inspect _) _
  | badcmd => cases h; exact State.anchorsKept_finish (s.repliesKeepingAnchors_error _) _
  | donepop =>
    cases h
    refine State.AnchorsKept.pop (State.AnchorsKept.ite _ ⟨id⟩ ?_)
    split
    · exact ⟨id⟩
    · exact ⟨(s.anchorsKept_popDone _ _).holds⟩
  | logpop =>
    cases h
    refine State.AnchorsKept.pop (State.AnchorsKept.ite _ ⟨id⟩ ?_)
    split <;> exact ⟨id⟩
  | ackcause v => cases h; exact State.AnchorsKept.access (s := s) (after := s.writeAckcause v) ⟨id⟩
  | causeen v => cases h; exact State.AnchorsKept.access (s := s) (after := s.writeCauseen v) ⟨id⟩
  | logmark v => cases h; exact State.AnchorsKept.access (s := s) (after := s.writeLogmark v) ⟨id⟩
  | groupdone v => cases h; exact (s.anchorsKept_writeGroupdone v).access
  | registerWrite o v => cases h; exact (s.anchorsKept_writeWindow o v).access
  | hardwareReset =>
    cases h
    refine ⟨fun _ => (State.anchorsLive_iff _).mpr fun g anchor replace hstate => ?_⟩
    simp [State.reset, State.group, Vector.get_eq_getElem, Group.afterReset] at hstate
  | sourceEdge pin => cases h; exact .ite _ ⟨s.anchorsKept_takeDueAdvance.holds⟩ ⟨id⟩
  | advance => cases h; exact .ite _ s.anchorsKept_takeDueAdvance ⟨id⟩
  | edge ch dir => cases h; exact .ite _ ⟨(State.anchorsKept_observeEdge (s.setPin ch (edgeFlag dir)) ch dir).holds⟩ ⟨id⟩
  | watchExpiry ch => cases h; exact .ite _ (s.keepsAnchors_takeReachedWatch ch).kept ⟨id⟩
  | referenceExpiry ch =>
    cases h
    exact .ite _ ((s.keepsAnchors_takeReachedWatch ch).trans (State.keepsAnchors_setChannel _ ch _)).kept ⟨id⟩
  | leadRelease =>
    cases h
    split
    · exact ⟨id⟩
    · exact .ite _ (s.anchorsKept_releaseLead _ _) ⟨id⟩
  | endRelease =>
    cases h
    split
    · exact ⟨id⟩
    · exact .ite _ (s.anchorsKept_releaseEnd _ _) ⟨id⟩

/-- Settles O58: an event that can end an anchor runs the due commits, after which none is due; every other event leaves
the live slots live and makes no group PENDING but on a live anchor. -/
theorem stepKeepsAnchorsLive : Obligations.StepKeepsAnchorsLive :=
  fun _ _ hs hstep => step_keeps_of_exec (P := State.AnchorsLive) (fun _ _ hu => hu)
    (fun _ _ _ hexec hu => (exec_anchorsKept hexec).holds hu) hs hstep

end Sys2Proof.Machine
end

section
/-! The operations over many slots, field by field (Sections 5.4 and 6.7): what a launch, a retiring and the placement of an open
list make of the calendar, the completion queue and the parked lists. -/

namespace Sys2Proof.Machine

/-! ### One field under an operation over many slots -/

/-- A field that each step of an operation rewrites from the slot at hand, whose step leaves the other slots alone: over a
list without repetition every slot is read as the operation found it. -/
theorem view_foldl {β : Type} (f : State → SlotNo → State) (view : State → β) (rewrite : β → SlotNo → Slot → β) (now : Tick)
    (hview : ∀ s n, s.now = now → view (f s n) = rewrite (view s) n (s.slot n))
    (hslot : ∀ s n m, m ≠ n → (f s n).slot m = s.slot m) (hnow : ∀ s n, (f s n).now = s.now)
    {l : List SlotNo} (hl : l.Nodup) (s : State) (hs : s.now = now) :
    view (l.foldl f s) = l.foldl (fun b n => rewrite b n (s.slot n)) (view s) := by
  induction l generalizing s with
  | nil => rfl
  | cons n rest ih =>
    obtain ⟨hout, hrest⟩ := List.nodup_cons.mp hl
    have hsame : ∀ m ∈ rest, (f s n).slot m = s.slot m := fun m hm => hslot s n m fun heq => hout (heq ▸ hm)
    rw [List.foldl_cons, List.foldl_cons, ih hrest (f s n) ((hnow s n).trans hs), hview s n hs]
    exact List.foldl_ext _ _ _ fun b m hm => by rw [hsame m hm]

/-- Slots joining a list one after the other. -/
theorem foldl_append_filter (p : SlotNo → Bool) (l queue : List SlotNo) :
    l.foldl (fun q n => if p n then q ++ [n] else q) queue = queue ++ l.filter p := by
  induction l generalizing queue with
  | nil => simp
  | cons n rest ih =>
    rw [List.foldl_cons, ih]
    cases hn : p n <;> simp [hn]

/-- Slots leaving a list of records one after the other. -/
theorem foldl_filter_ne {α : Type} (slotOf : α → SlotNo) (p : SlotNo → Bool) (l : List SlotNo) (records : List α) :
    l.foldl (fun r n => if p n then r.filter (fun x => slotOf x != n) else r) records
      = records.filter (fun x => !(decide (slotOf x ∈ l) && p (slotOf x))) := by
  induction l generalizing records with
  | nil => simp
  | cons n rest ih =>
    rw [List.foldl_cons, ih]
    cases hn : p n with
    | true =>
      rw [if_pos rfl, List.filter_filter]
      refine List.filter_congr fun x _ => ?_
      by_cases hx : slotOf x = n <;> simp [hx, hn]
    | false =>
      rw [if_neg Bool.false_ne_true]
      refine List.filter_congr fun x _ => ?_
      by_cases hx : slotOf x = n <;> simp [hx, hn]

/-- LEAD entries inserted one after the other. -/
def insertLeads (now : Tick) (dues : List (SlotNo × Tick)) (calendar : List Entry) : List Entry :=
  dues.foldl (fun entries d => insertEntry now ⟨d.1, .lead, d.2, 0⟩ entries) calendar

theorem foldl_insertLead (now : Tick) (due : SlotNo → Option Tick) (l : List SlotNo) (calendar : List Entry) :
    l.foldl (fun entries n => match due n with
        | some d => insertEntry now ⟨n, .lead, d, 0⟩ entries
        | none => entries) calendar
      = insertLeads now (l.filterMap (fun n => (due n).map (fun d => (n, d)))) calendar := by
  induction l generalizing calendar with
  | nil => rfl
  | cons n rest ih =>
    rw [List.foldl_cons, ih]
    cases hn : due n with
    | none => simp [hn]
    | some d => simp [hn, insertLeads]

theorem foldl_parked (p : SlotNo → Bool) (l : List SlotNo) (x : Channel) :
    l.foldl (fun (c : Channel) n => if p n then { c with parked := c.parked ++ [n] } else c) x
      = { x with parked := x.parked ++ l.filter p } := by
  induction l generalizing x with
  | nil => simp
  | cons n rest ih =>
    rw [List.foldl_cons, ih]
    cases hn : p n <;> simp [hn]

theorem foldl_unparked (p : SlotNo → Bool) (l : List SlotNo) (x : Channel) :
    l.foldl (fun (c : Channel) n => if p n then { c with parked := c.parked.filter (· != n) } else c) x
      = { x with parked := x.parked.filter (fun n => !(decide (n ∈ l) && p n)) } := by
  have hlist : l.foldl (fun r n => if p n then r.filter (· != n) else r) x.parked
      = x.parked.filter (fun n => !(decide (n ∈ l) && p n)) := foldl_filter_ne id p l x.parked
  rw [← hlist]
  clear hlist
  induction l generalizing x with
  | nil => rfl
  | cons n rest ih =>
    rw [List.foldl_cons, List.foldl_cons, ih]
    cases p n <;> rfl

/-! ### What the shared operations leave alone -/

/-- A state that differs in no field but the slots and their collections. -/
theorem State.eq_of_untouched_eq {s t : State} (h : t.untouched = s.untouched) :
    t = { s with slots := t.slots, calendar := t.calendar, channels := t.channels, groups := t.groups,
                 doneQueue := t.doneQueue } := by
  cases s
  cases t
  simp only [State.untouched, Prod.mk.injEq] at h
  obtain ⟨htb, hlimit, hlines, hpins, hreset, hlog, hthreshold, henables, hcmd, hcu, hbus, hpending⟩ := h
  simp [*]

/-! ### A launch (R129) -/

/-- The due time that a launch gives the slot it finds. -/
def Slot.launchDue (trigger : Tick) : Slot → Option Tick
  | .parked h => some (trigger + h.action.timeValue)
  | _ => none

theorem State.launchSlot_calendar (trigger : Tick) (s : State) (n : SlotNo) :
    (State.launchSlot trigger s n).calendar = match (s.slot n).launchDue trigger with
      | some d => insertEntry s.now ⟨n, .lead, d, 0⟩ s.calendar
      | none => s.calendar := by
  unfold State.launchSlot
  cases s.slot n <;> rfl

theorem State.launch_calendar (s : State) (ch : ChanNo) (trigger : Tick) (hlist : (s.channel ch).parked.Nodup) :
    (s.launch ch trigger).calendar
      = insertLeads s.now ((s.channel ch).parked.filterMap (fun n => ((s.slot n).launchDue trigger).map (fun d => (n, d))))
          s.calendar := by
  have h := view_foldl (State.launchSlot trigger) State.calendar
    (fun entries n x => match x.launchDue trigger with
      | some d => insertEntry s.now ⟨n, .lead, d, 0⟩ entries
      | none => entries) s.now (fun t n ht => by rw [t.launchSlot_calendar, ht])
    (fun t n m hm => by rw [t.slot_launchSlot, if_neg hm]) (State.launchSlot_now trigger) hlist
    (s.setChannel ch { s.channel ch with parked := [] }) rfl
  exact h.trans (foldl_insertLead s.now (fun n => (s.slot n).launchDue trigger) _ s.calendar)

/-- Settles O41: over the parked list, which holds each PARKED slot of the channel once, the launch takes each slot as it
stands. -/
theorem launchEmptiesTheParkedList : Obligations.LaunchEmptiesTheParkedList := by
  intro s ch trigger hparked
  obtain ⟨hnodup, hmem⟩ := hparked ch
  obtain ⟨huntouched, hgroups, hqueue⟩ := s.launch_untouched ch trigger
  refine ⟨?frame, s.launch_channels ch trigger, fun n => ?slot, ?calendar⟩
  case frame =>
    have h := State.eq_of_untouched_eq huntouched
    rwa [hgroups, hqueue] at h
  case slot =>
    rw [State.slot_launch]
    by_cases hn : n ∈ (s.channel ch).parked
    · have hon := (hmem n).mp hn
      rw [if_pos hn]
      cases hslot : s.slot n with
      | parked h =>
        rw [hslot] at hon
        have hch : h.action.channel = some ch := beq_iff_eq.mp hon
        simp only [hch, if_true]
        rfl
      | _ => rfl
    · rw [if_neg hn]
      cases hslot : s.slot n with
      | parked h =>
        have hch : h.action.channel ≠ some ch := fun hch => hn ((hmem n).mpr (by rw [hslot]; exact beq_iff_eq.mpr hch))
        simp only [hch, if_false]
      | _ => rfl
  case calendar =>
    rw [s.launch_calendar ch trigger hnodup, insertLeads]
    congr 1
    refine List.filterMap_congr fun n _ => ?_
    cases s.slot n <;> rfl

/-! ### A retiring (R95) -/

/-- A retiring completes the slot. -/
def Slot.retires (g : GroupNo) : Slot → Bool
  | .scheduled h _ => h.action.group == some g
  | .parked h => h.action.group == some g
  | _ => false

/-- A retiring withdraws the slot's LEAD entry. -/
def Slot.retiresScheduled (g : GroupNo) : Slot → Bool
  | .scheduled h _ => h.action.group == some g
  | _ => false

/-- A retiring takes the slot off the parked list of channel `c`. -/
def Slot.retiresParked (g : GroupNo) (c : ChanNo) : Slot → Bool
  | .parked h => h.action.group == some g && h.action.channel == some c
  | _ => false

theorem State.unpark_doneQueue (s : State) (n : SlotNo) (h : Held) : (s.unpark n h).doneQueue = s.doneQueue := by
  rw [State.unpark_eq]

theorem State.unpark_calendar (s : State) (n : SlotNo) (h : Held) : (s.unpark n h).calendar = s.calendar := by
  rw [State.unpark_eq]

theorem State.retireSlot_doneQueue (g : GroupNo) (s : State) (n : SlotNo) :
    (State.retireSlot g s n).doneQueue = if (s.slot n).retires g then s.doneQueue ++ [n] else s.doneQueue := by
  unfold State.retireSlot
  cases s.slot n with
  | scheduled h due => by_cases hg : h.action.group = some g <;> simp [Slot.retires, hg]
  | parked h => by_cases hg : h.action.group = some g <;> simp [Slot.retires, hg, State.unpark_doneQueue]
  | active h a b p => by_cases hg : h.action.group = some g <;> simp [Slot.retires, hg]
  | _ => rfl

theorem State.retireSlot_calendar (g : GroupNo) (s : State) (n : SlotNo) :
    (State.retireSlot g s n).calendar
      = if (s.slot n).retiresScheduled g then s.calendar.filter (fun e => e.slot != n) else s.calendar := by
  unfold State.retireSlot
  cases s.slot n with
  | scheduled h due => by_cases hg : h.action.group = some g <;> simp [Slot.retiresScheduled, hg, State.withdraw]
  | parked h => by_cases hg : h.action.group = some g <;> simp [Slot.retiresScheduled, hg, State.unpark_calendar]
  | active h a b p => by_cases hg : h.action.group = some g <;> simp [Slot.retiresScheduled, hg]
  | _ => rfl

theorem State.retireSlot_channel (g : GroupNo) (c : ChanNo) (s : State) (n : SlotNo) :
    (State.retireSlot g s n).channel c
      = if (s.slot n).retiresParked g c then { s.channel c with parked := (s.channel c).parked.filter (· != n) }
        else s.channel c := by
  unfold State.retireSlot
  cases s.slot n with
  | scheduled h due => by_cases hg : h.action.group = some g <;> simp [Slot.retiresParked, hg]
  | parked h => by_cases hg : h.action.group = some g <;> simp [Slot.retiresParked, hg, State.unpark_channel]
  | active h a b p => by_cases hg : h.action.group = some g <;> simp [Slot.retiresParked, hg]
  | _ => rfl

theorem State.slot_retireSlot_of_ne (g : GroupNo) (s : State) (n m : SlotNo) (h : m ≠ n) :
    (State.retireSlot g s n).slot m = s.slot m := by
  rw [s.slot_retireSlot, if_neg h]

theorem State.retire_doneQueue (s : State) (g : GroupNo) :
    (s.retire g).doneQueue = s.doneQueue ++ slotNumbers.filter (fun n => (s.slot n).retires g) :=
  (view_foldl (State.retireSlot g) State.doneQueue (fun q n x => if x.retires g then q ++ [n] else q) s.now
    (fun t n _ => t.retireSlot_doneQueue g n) (fun t n m => State.slot_retireSlot_of_ne g t n m) (State.retireSlot_now g)
    slotNumbers_nodup s rfl).trans (foldl_append_filter (fun n => (s.slot n).retires g) slotNumbers s.doneQueue)

theorem State.retire_calendar (s : State) (g : GroupNo) :
    (s.retire g).calendar = s.calendar.filter (fun e => !(s.slot e.slot).retiresScheduled g) := by
  have h := (view_foldl (State.retireSlot g) State.calendar
    (fun entries n x => if x.retiresScheduled g then entries.filter (fun e => e.slot != n) else entries) s.now
    (fun t n _ => t.retireSlot_calendar g n) (fun t n m => State.slot_retireSlot_of_ne g t n m) (State.retireSlot_now g)
    slotNumbers_nodup s rfl).trans
    (foldl_filter_ne Entry.slot (fun n => (s.slot n).retiresScheduled g) slotNumbers s.calendar)
  refine h.trans (List.filter_congr fun e _ => ?_)
  simp [mem_slotNumbers]

theorem State.retire_channel (s : State) (g : GroupNo) (c : ChanNo) :
    (s.retire g).channel c
      = { s.channel c with parked := (s.channel c).parked.filter (fun n => !(s.slot n).retiresParked g c) } := by
  have h := (view_foldl (State.retireSlot g) (·.channel c)
    (fun (x : Channel) n y => if y.retiresParked g c then { x with parked := x.parked.filter (· != n) } else x) s.now
    (fun t n _ => t.retireSlot_channel g c n) (fun t n m => State.slot_retireSlot_of_ne g t n m) (State.retireSlot_now g)
    slotNumbers_nodup s rfl).trans
    (foldl_unparked (fun n => (s.slot n).retiresParked g c) slotNumbers (s.channel c))
  refine h.trans (congrArg (fun l => { s.channel c with parked := l }) (List.filter_congr fun n _ => ?_))
  simp [mem_slotNumbers]

/-! ### The placement of an open list (R97) -/

/-- The due time that placement gives the slot it finds. -/
def Slot.placeDue (now : Tick) : Slot → Option Tick
  | .opened h => match h.action.mode with
    | .abs => some h.action.timeValue
    | .rel => some (now + h.action.timeValue)
    | .trig => none
  | _ => none

/-- Placement parks the slot on channel `c`. -/
def Slot.placesOn (c : ChanNo) : Slot → Bool
  | .opened h => h.action.mode == .trig && h.action.channel == some c
  | _ => false

theorem State.placeMember_calendar (s : State) (n : SlotNo) :
    (s.placeMember n).calendar = match (s.slot n).placeDue s.now with
      | some d => insertEntry s.now ⟨n, .lead, d, 0⟩ s.calendar
      | none => s.calendar := by
  rcases s.placeMember_cases n with ⟨h, hslot, e⟩ | ⟨hother, e⟩
  · rw [e, hslot]
    rcases s.place_cases n h with ⟨hmode, e⟩ | ⟨hmode, e⟩ | ⟨hmode, e⟩ <;> rw [e] <;> simp only [Slot.placeDue, hmode]
    · rfl
    · rfl
    · exact s.park_calendar n _
  · rw [e]
    cases hslot : s.slot n with
    | opened h => exact absurd hslot (hother h)
    | _ => rfl

theorem State.placeMember_channel (s : State) (n : SlotNo) (c : ChanNo) :
    (s.placeMember n).channel c
      = if (s.slot n).placesOn c then { s.channel c with parked := (s.channel c).parked ++ [n] } else s.channel c := by
  rcases s.placeMember_cases n with ⟨h, hslot, e⟩ | ⟨hother, e⟩
  · rw [e, hslot]
    rcases s.place_cases n h with ⟨hmode, e⟩ | ⟨hmode, e⟩ | ⟨hmode, e⟩ <;> rw [e]
    · simp [Slot.placesOn, hmode]
    · simp [Slot.placesOn, hmode]
    · rw [State.park_channel]
      by_cases hc : h.action.channel = some c <;> simp [Slot.placesOn, hmode, Held.reloaded, hc]
  · rw [e]
    cases hslot : s.slot n with
    | opened h => exact absurd hslot (hother h)
    | _ => rfl

theorem State.slot_placeMember_of_ne (s : State) (n m : SlotNo) (h : m ≠ n) : (s.placeMember n).slot m = s.slot m := by
  rw [s.slot_placeMember, if_neg h]

theorem State.placeMembers_calendar (s : State) {l : List SlotNo} (hl : l.Nodup) :
    (l.foldl State.placeMember s).calendar
      = insertLeads s.now (l.filterMap (fun n => ((s.slot n).placeDue s.now).map (fun d => (n, d)))) s.calendar :=
  (view_foldl State.placeMember State.calendar
    (fun entries n x => match x.placeDue s.now with
      | some d => insertEntry s.now ⟨n, .lead, d, 0⟩ entries
      | none => entries) s.now (fun t n ht => by rw [t.placeMember_calendar, ht]) State.slot_placeMember_of_ne
    State.placeMember_now hl s rfl).trans (foldl_insertLead s.now (fun n => (s.slot n).placeDue s.now) l s.calendar)

theorem State.placeMembers_channel (s : State) {l : List SlotNo} (hl : l.Nodup) (c : ChanNo) :
    (l.foldl State.placeMember s).channel c
      = { s.channel c with parked := (s.channel c).parked ++ l.filter (fun n => (s.slot n).placesOn c) } :=
  (view_foldl State.placeMember (·.channel c)
    (fun (x : Channel) n y => if y.placesOn c then { x with parked := x.parked ++ [n] } else x) s.now
    (fun t n _ => t.placeMember_channel n c) State.slot_placeMember_of_ne State.placeMember_now hl s rfl).trans
    (foldl_parked (fun n => (s.slot n).placesOn c) l (s.channel c))

end Sys2Proof.Machine
end

section
/-! The commit of a group, field by field (Section 5.4), and COMMIT with its two choices (Section 5.3). -/

namespace Sys2Proof.Machine

/-! ### A commit's retiring, if it has one -/

theorem State.now_eq_of_untouched_eq {s t : State} (h : t.untouched = s.untouched) : t.now = s.now :=
  congrArg (fun fields => fields.1.value) h

theorem State.retire_now (s : State) (g : GroupNo) : (s.retire g).now = s.now :=
  State.now_eq_of_untouched_eq (s.retire_untouched g).1

/-- The state after the retiring of a commit with REPLACE, and as it was without (R94). -/
def State.retiredIf (s : State) (g : GroupNo) (replace : Bool) : State := if replace then s.retire g else s

theorem State.commitGroup_eq_retiredIf (s : State) (g : GroupNo) (replace : Bool) (cause : CommitCause) :
    s.commitGroup g replace cause = (s.retiredIf g replace).commitMembers g cause :=
  s.commitGroup_eq g replace cause

/-- A slot that the retiring of a commit finds. -/
def Slot.retiredIf (now : Tick) (g : GroupNo) (replace : Bool) (x : Slot) : Slot := if replace then x.retired now g else x

theorem State.retiredIf_now (s : State) (g : GroupNo) (replace : Bool) : (s.retiredIf g replace).now = s.now := by
  unfold State.retiredIf
  split
  · exact s.retire_now g
  · rfl

theorem State.retiredIf_groups (s : State) (g : GroupNo) (replace : Bool) : (s.retiredIf g replace).groups = s.groups := by
  unfold State.retiredIf
  split
  · exact (s.retire_untouched g).2
  · rfl

theorem State.slot_retiredIf (s : State) (g : GroupNo) (replace : Bool) (n : SlotNo) :
    (s.retiredIf g replace).slot n = (s.slot n).retiredIf s.now g replace := by
  unfold State.retiredIf Slot.retiredIf
  split
  · exact s.slot_retire g n
  · rfl

theorem State.retiredIf_doneQueue (s : State) (g : GroupNo) (replace : Bool) :
    (s.retiredIf g replace).doneQueue = s.doneQueue ++ slotNumbers.filter (fun n => replace && (s.slot n).retires g) := by
  unfold State.retiredIf
  cases replace with
  | true => simpa using s.retire_doneQueue g
  | false => simp

theorem State.retiredIf_calendar (s : State) (g : GroupNo) (replace : Bool) :
    (s.retiredIf g replace).calendar = s.calendar.filter (fun e => !(replace && (s.slot e.slot).retiresScheduled g)) := by
  unfold State.retiredIf
  cases replace with
  | true => simpa using s.retire_calendar g
  | false => simp

theorem State.retiredIf_channel (s : State) (g : GroupNo) (replace : Bool) (c : ChanNo) :
    (s.retiredIf g replace).channel c
      = { s.channel c with
          parked := (s.channel c).parked.filter (fun n => !(replace && (s.slot n).retiresParked g c)) } := by
  unfold State.retiredIf
  cases replace with
  | true => simpa using s.retire_channel g c
  | false => simp

/-! ### The whole commit (R94 to R98) -/

theorem State.commitGroup_now (s : State) (g : GroupNo) (replace : Bool) (cause : CommitCause) :
    (s.commitGroup g replace cause).now = s.now :=
  State.now_eq_of_untouched_eq (s.commitGroup_untouched g replace cause)

theorem State.retiredIf_openList (s : State) (g : GroupNo) (replace : Bool) :
    ((s.retiredIf g replace).group g).openList = (s.group g).openList := by
  rw [State.group_of_groups_eq (s.retiredIf_groups g replace)]

theorem State.slot_commitGroup (s : State) (g : GroupNo) (replace : Bool) (cause : CommitCause) (n : SlotNo) :
    (s.commitGroup g replace cause).slot n
      = if n ∈ (s.group g).openList then ((s.slot n).retiredIf s.now g replace).placed s.now
        else (s.slot n).retiredIf s.now g replace := by
  rw [State.commitGroup_eq_retiredIf, State.commitMembers, State.closeCommit, State.setGroup_slot, State.slot_placeMembers,
    State.retiredIf_openList, State.slot_retiredIf, State.retiredIf_now]

theorem State.commitGroup_groups (s : State) (g : GroupNo) (replace : Bool) (cause : CommitCause) :
    (s.commitGroup g replace cause).groups = s.groups.set g.val
      { state := .empty, openList := [], lastCause := cause,
        done := if cause = .now then (s.group g).done else true } g.isLt := by
  have hplaced :
      (((s.retiredIf g replace).group g).openList.foldl State.placeMember (s.retiredIf g replace)).groups = s.groups :=
    (State.placeMembers_untouched _ _).2.1.trans (s.retiredIf_groups g replace)
  have hdone : ((s.group g).done || cause != .now) = if cause = .now then (s.group g).done else true := by
    cases cause <;> simp
  rw [State.commitGroup_eq_retiredIf, State.commitMembers, State.closeCommit, State.setGroup,
    State.group_of_groups_eq hplaced, hdone]
  simp only [hplaced]

/-- With the open list's law, a commit places the slots OPEN in its group. -/
theorem State.OpenListsHold.slot_commitGroup {s : State} (hlists : s.OpenListsHold) (g : GroupNo) (replace : Bool)
    (cause : CommitCause) (n : SlotNo) :
    (s.commitGroup g replace cause).slot n
      = if (s.slot n).isOpenIn g then (s.slot n).placed s.now else (s.slot n).retiredIf s.now g replace := by
  obtain ⟨-, hmem, -, -⟩ := hlists.1 g
  rw [State.slot_commitGroup]
  by_cases hn : (s.slot n).isOpenIn g = true
  · rw [if_pos ((hmem n).mpr hn), if_pos hn]
    cases hslot : s.slot n with
    | opened h => cases replace <;> rfl
    | _ => rw [hslot] at hn; exact absurd hn Bool.false_ne_true
  · rw [if_neg fun h => hn ((hmem n).mp h), if_neg hn]

/-- A member of the open list, as the placement finds it. -/
theorem State.OpenListsHold.slot_retiredIf_member {s : State} (hlists : s.OpenListsHold) (g : GroupNo) (replace : Bool)
    {n : SlotNo} (hn : n ∈ (s.group g).openList) : (s.retiredIf g replace).slot n = s.slot n := by
  have hin := ((hlists.1 g).2.1 n).mp hn
  rw [State.slot_retiredIf]
  cases hslot : s.slot n with
  | opened h => cases replace <;> rfl
  | _ => rw [hslot] at hin; exact absurd hin Bool.false_ne_true

theorem State.OpenListsHold.commitGroup_calendar {s : State} (hlists : s.OpenListsHold) (g : GroupNo) (replace : Bool)
    (cause : CommitCause) :
    (s.commitGroup g replace cause).calendar
      = insertLeads s.now
          ((s.group g).openList.filterMap (fun n => ((s.slot n).placeDue s.now).map (fun d => (n, d))))
          (s.calendar.filter (fun e => !(replace && (s.slot e.slot).retiresScheduled g))) := by
  rw [State.commitGroup_eq_retiredIf, State.commitMembers, State.closeCommit, State.setGroup_calendar,
    State.retiredIf_openList, State.placeMembers_calendar _ (hlists.1 g).1, State.retiredIf_now, State.retiredIf_calendar]
  refine congrArg (insertLeads s.now · _) (List.filterMap_congr fun n hn => ?_)
  rw [hlists.slot_retiredIf_member g replace hn]

theorem State.OpenListsHold.commitGroup_channel {s : State} (hlists : s.OpenListsHold) (g : GroupNo) (replace : Bool)
    (cause : CommitCause) (c : ChanNo) :
    (s.commitGroup g replace cause).channel c
      = { s.channel c with
          parked := (s.channel c).parked.filter (fun n => !(replace && (s.slot n).retiresParked g c))
            ++ (s.group g).openList.filter (fun n => (s.slot n).placesOn c) } := by
  rw [State.commitGroup_eq_retiredIf, State.commitMembers, State.closeCommit, State.setGroup_channel,
    State.retiredIf_openList, State.placeMembers_channel _ (hlists.1 g).1, State.retiredIf_channel]
  have hmembers : (s.group g).openList.filter (fun n => ((s.retiredIf g replace).slot n).placesOn c)
      = (s.group g).openList.filter (fun n => (s.slot n).placesOn c) :=
    List.filter_congr fun n hn => by rw [hlists.slot_retiredIf_member g replace hn]
  rw [hmembers]

theorem State.commitGroup_doneQueue (s : State) (g : GroupNo) (replace : Bool) (cause : CommitCause) :
    (s.commitGroup g replace cause).doneQueue
      = s.doneQueue ++ slotNumbers.filter (fun n => replace && (s.slot n).retires g) := by
  rw [State.commitGroup_eq_retiredIf, State.commitMembers, State.closeCommit, State.setGroup_doneQueue,
    (State.placeMembers_untouched _ _).2.2, State.retiredIf_doneQueue]

/-- What the due of a member is, in the terms of the statements. -/
theorem Slot.placeDue_map (now : Tick) (n : SlotNo) (x : Slot) :
    (x.placeDue now).map (fun d => (n, d)) = match x with
      | .opened h => match h.action.mode with
        | .abs => some (n, h.action.timeValue)
        | .rel => some (n, now + h.action.timeValue)
        | .trig => none
      | _ => none := by
  cases x with
  | opened h => simp only [Slot.placeDue]; cases h.action.mode <;> rfl
  | _ => rfl

/-! ### No commit waiting (R87) -/

/-- An event that acts on slot `n`: no group and no other slot changes, and `n`, which was live, is not OPEN after it. -/
structure State.ActsOn (s u : State) (n : SlotNo) : Prop where
  now : u.now = s.now
  groups : u.groups = s.groups
  others : ∀ m, m ≠ n → u.slot m = s.slot m
  live : (s.slot n).isLive = true
  unopened : (u.slot n).opened? = none

theorem State.ActsOn.anchorsLive {s u : State} {n : SlotNo} (h : s.ActsOn u n) (hnone : s.NoCommitWaitsFor n) :
    u.AnchorsLive := by
  obtain ⟨hlive, hother⟩ := hnone
  refine u.anchorsLive_iff.mpr fun g anchor replace hstate => ?_
  rw [State.group_of_groups_eq h.groups] at hstate
  rw [h.others anchor (hother g anchor replace hstate)]
  exact hlive.anchor hstate

/-- With no commit waiting for the slot that the event acts on, none executes. -/
theorem State.ActsOn.runEndedCommits {s u : State} {n : SlotNo} (h : s.ActsOn u n) (hnone : s.NoCommitWaitsFor n) :
    u.runEndedCommits = u :=
  u.runEndedCommits_of_anchorsLive (h.anchorsLive hnone)

theorem State.ActsOn.runFiredCommits {s u : State} {n : SlotNo} (h : s.ActsOn u n) (hnone : s.NoCommitWaitsFor n) :
    u.runFiredCommits n = u :=
  u.runFiredCommits_of_anchorsLive n (h.anchorsLive hnone) fun g anchor replace hstate =>
    hnone.2 g anchor replace (by rwa [State.group_of_groups_eq h.groups] at hstate)

/-! ### COMMIT (R90 to R92) -/

/-- A COMMIT that passes checks 1 to 5 of R90 carries out its choice. -/
theorem State.replyCommit_of_passed {s : State} {g : GroupNo} (hg : (s.param 0).toNat = g.val + 1)
    (hchoice : (s.param 1).toNat ≤ 1) (hanchor : (s.param 1).toNat = 1 → slotOf (s.param 3) ≠ none)
    (hpending : ∀ (a : SlotNo) (r : Bool), (s.group g).state ≠ .pending a r)
    (hempty : (s.group g).state = .empty → (s.param 2).getLsbD 0 = true) :
    s.replyCommit = if (s.param 1).toNat = 0 then .ok (s.replyCommitNow g ((s.param 2).getLsbD 0))
      else match slotOf (s.param 3) with
        | none => .error .badSlot
        | some anchor =>
          if (s.slot anchor).isLive then .ok (s.replyCommitAnchor g anchor ((s.param 2).getLsbD 0))
          else .error .notLive := by
  unfold State.replyCommit
  simp only [(groupOf_eq_some_iff _ g).mpr hg]
  rw [if_neg (not_lt.mpr hchoice), if_neg fun h => hanchor h.1 h.2]
  cases hstate : (s.group g).state with
  | pending a r => exact absurd hstate (hpending a r)
  | empty => simp only [hempty hstate]; rfl
  | filling => rfl

/-- A COMMIT with NOW that passes its checks (R91). -/
theorem exec_commitNow {s : State} {g : GroupNo} (hbusy : s.cu.busy = true) (hcode : s.cu.code = 0x03#8)
    (hg : (s.param 0).toNat = g.val + 1) (hnow : (s.param 1).toNat = 0)
    (hpending : ∀ (a : SlotNo) (r : Bool), (s.group g).state ≠ .pending a r)
    (hempty : (s.group g).state = .empty → (s.param 2).getLsbD 0 = true) :
    exec .commit s = .next ((s.commitGroup g ((s.param 2).getLsbD 0) .now).runEndedCommits.accepted
      (s.replyCommitNow g ((s.param 2).getLsbD 0)).2) := by
  rw [exec_commit_of_latched s ⟨hbusy, hcode⟩,
    State.replyCommit_of_passed hg (by omega) (fun h => by omega) hpending hempty, if_pos hnow]
  exact congrArg Host.Outcome.next (State.finish_ok s _ _)

/-- Settles O24: with the anchor live the sixth check passes, and the group's record is the whole effect. -/
theorem commitAtAnchorMakesTheGroupPending : Obligations.CommitAtAnchorMakesTheGroupPending := by
  intro s g anchor hbusy hcode hg hchoice hanchor hpending hempty hlive
  have hslot : slotOf (s.param 3) = some anchor := (slotOf_eq_some_iff _ anchor).mpr hanchor
  rw [exec_commit_of_latched s ⟨hbusy, hcode⟩,
    State.replyCommit_of_passed hg (by omega) (fun _ => by simp [hslot]) hpending hempty, if_neg (by omega)]
  simp only [hslot, hlive, if_true]
  exact congrArg Host.Outcome.next (State.finish_ok s _ _)

/-- A commit with REPLACE leaves the anchors of the other groups live where none of them waits for its generation. -/
theorem State.anchorsLive_commitGroup {s : State} (g : GroupNo) (replace : Bool) (cause : CommitCause)
    (hlists : s.OpenListsHold) (hs : s.AnchorsLive)
    (hnone : ∀ n : SlotNo, (s.slot n).inPlacedGeneration g = true → s.NoCommitWaitsFor n) :
    (s.commitGroup g replace cause).AnchorsLive := by
  refine (State.anchorsLive_iff _).mpr fun k anchor r hstate => ?_
  rw [State.commitGroup_group] at hstate
  split at hstate
  · cases hstate
  have hlive := hs.anchor hstate
  have hout : ∀ h, (s.slot anchor).held? = some h → h.action.group ≠ some g := fun h hheld hg =>
    (hnone anchor (by simp [Slot.inPlacedGeneration, hlive, hheld, hg])).2 k anchor r hstate rfl
  rw [hlists.slot_commitGroup]
  generalize s.slot anchor = x at hlive hout
  cases x with
  | scheduled h due =>
    have hg := hout h rfl
    cases replace <;> simp [Slot.retiredIf, Slot.retired, Slot.isOpenIn, hg, Slot.isLive]
  | parked h =>
    have hg := hout h rfl
    cases replace <;> simp [Slot.retiredIf, Slot.retired, Slot.isOpenIn, hg, Slot.isLive]
  | active h a b p =>
    have hg := hout h rfl
    cases replace <;> simp [Slot.retiredIf, Slot.retired, Slot.isOpenIn, hg, Slot.isLive]
  | _ => exact absurd hlive Bool.false_ne_true

/-- Settles O26: the COMMIT's reply with its two counts, and then the commit of a group as its retiring and the placement of
its members, each slot read as the commit found it. -/
theorem replaceRetiresTheGeneration : Obligations.ReplaceRetiresTheGeneration := by
  refine ⟨fun s g hbusy hcode hg hnow hreplace hpending => ⟨?reply, fun hlists hs hnone => ?plain⟩,
    fun s g replace cause hlists => ?commit⟩
  case reply =>
    have h := exec_commitNow hbusy hcode hg hnow hpending fun _ => hreplace
    rw [hreplace] at h
    exact h
  case plain => exact State.runEndedCommits_of_anchorsLive _ (State.anchorsLive_commitGroup g true .now hlists hs hnone)
  case commit =>
    refine ⟨State.eq_of_untouched_eq (s.commitGroup_untouched g replace cause), s.commitGroup_groups g replace cause,
      ?queue, fun n => ?slot, ?calendar, fun c => ?channel⟩
    case queue =>
      rw [State.commitGroup_doneQueue]
      refine congrArg (s.doneQueue ++ ·) (List.filter_congr fun n _ => ?_)
      cases s.slot n <;> rfl
    case slot =>
      rw [hlists.slot_commitGroup]
      cases s.slot n with
      | opened h =>
        by_cases hg : h.action.group = some g
        · simp [Slot.isOpenIn, hg, Slot.placed]
        · cases replace <;> simp [Slot.isOpenIn, hg, Slot.retiredIf, Slot.retired]
      | scheduled h due => cases replace <;> simp [Slot.isOpenIn, Slot.retiredIf, Slot.retired]
      | parked h => cases replace <;> simp [Slot.isOpenIn, Slot.retiredIf, Slot.retired]
      | active h a b p => cases replace <;> simp [Slot.isOpenIn, Slot.retiredIf, Slot.retired]
      | _ => cases replace <;> rfl
    case calendar =>
      exact (hlists.commitGroup_calendar g replace cause).trans
        (congrArg₂ (insertLeads s.now) (List.filterMap_congr fun n _ => Slot.placeDue_map s.now n (s.slot n)) rfl)
    case channel => exact hlists.commitGroup_channel g replace cause c

/-- Settles O25: a commit without REPLACE retires nothing, and with every anchor live makes no other commit due. -/
theorem commitNowPlacesTheOpenList : Obligations.CommitNowPlacesTheOpenList := by
  intro s g hbusy hcode hg hnow hreplace hfilling hlists hs
  have hlive : (s.commitGroup g false .now).AnchorsLive := by
    refine (State.anchorsLive_iff _).mpr fun k anchor r hstate => ?_
    rw [State.commitGroup_group] at hstate
    split at hstate
    · cases hstate
    have hanchor := hs.anchor hstate
    rw [hlists.slot_commitGroup]
    cases hslot : s.slot anchor with
    | scheduled | parked | active => rfl
    | _ => rw [hslot] at hanchor; exact absurd hanchor Bool.false_ne_true
  have hexec := exec_commitNow hbusy hcode hg hnow (by simp [hfilling]) (by simp [hfilling])
  rw [hreplace, State.runEndedCommits_of_anchorsLive _ hlive] at hexec
  have hqueue : (s.commitGroup g false .now).doneQueue = s.doneQueue := by
    rw [State.commitGroup_doneQueue]
    simp
  have hframe := State.eq_of_untouched_eq (s.commitGroup_untouched g false .now)
  refine ⟨_, hexec, ?frame, ?result, s.commitGroup_groups g false .now, fun n => ?slot, ?calendar, fun c => ?channel⟩
  case frame =>
    obtain ⟨slots, calendar, channels, groups, hcommit⟩ : ∃ slots calendar channels groups,
        s.commitGroup g false .now
          = { s with slots := slots, calendar := calendar, channels := channels, groups := groups } := by
      rw [hqueue] at hframe
      exact ⟨_, _, _, _, hframe⟩
    rw [hcommit]
    rfl
  case result =>
    have hcu : (s.commitGroup g false .now).cu = s.cu := by rw [hframe]
    simp only [State.accepted, hcu]
    rfl
  case slot =>
    refine (hlists.slot_commitGroup g false .now n).trans ?_
    cases s.slot n with
    | opened h =>
      have hopen : (Slot.opened h).isOpenIn g = true ↔ h.action.group = some g := beq_iff_eq
      by_cases hg : h.action.group = some g
      · exact (if_pos (hopen.mpr hg)).trans (Eq.trans (b := h.placedAt s.now) rfl (if_pos hg).symm)
      · exact (if_neg (hg ∘ hopen.mp)).trans (if_neg hg).symm
    | _ => rfl
  case calendar =>
    refine (hlists.commitGroup_calendar g false .now).trans
      (congrArg₂ (insertLeads s.now) (List.filterMap_congr fun n _ => Slot.placeDue_map s.now n (s.slot n)) ?_)
    simp
  case channel =>
    refine (hlists.commitGroup_channel g false .now c).trans
      (congrArg₂ (fun unparked placed => { s.channel c with parked := unparked ++ placed }) ?_ rfl)
    simp

end Sys2Proof.Machine
end

section
/-! An event that acts on one placed slot (Sections 1.7, 4.4 to 4.7): what it leaves alone, CANCEL of a placed slot, and FORCE. -/

namespace Sys2Proof.Machine

/-! ### Acting on one slot -/

/-- The slots, the groups and the timebase are as they were. -/
structure State.SameSlots (s u : State) : Prop where
  slots : u.slots = s.slots
  groups : u.groups = s.groups
  now : u.now = s.now

theorem State.Leaves.sameSlots {s u : State} {n : SlotNo} {h : Held} (leaves : s.Leaves n h u) : s.SameSlots u := by
  cases leaves with
  | scheduled => exact ⟨rfl, rfl, rfl⟩
  | parked => rw [State.unpark_eq]; exact ⟨rfl, rfl, rfl⟩
  | active => rw [State.releaseClaims_eq]; exact ⟨rfl, rfl, rfl⟩

theorem State.Leaves.live {s u : State} {n : SlotNo} {h : Held} (leaves : s.Leaves n h u) : (s.slot n).isLive = true := by
  cases leaves with
  | scheduled hslot _ => rw [hslot]; rfl
  | parked hslot => rw [hslot]; rfl
  | active hslot _ => rw [hslot]; rfl

theorem State.Logged.sameSlots {s u : State} (h : s.Logged u) : s.SameSlots u := by
  obtain ⟨l, rfl, -⟩ := h
  exact ⟨rfl, rfl, rfl⟩

theorem State.SameSlots.trans {s t u : State} (h : s.SameSlots t) (k : t.SameSlots u) : s.SameSlots u :=
  ⟨k.slots.trans h.slots, k.groups.trans h.groups, k.now.trans h.now⟩

theorem State.SameSlots.slot {s u : State} (h : s.SameSlots u) (n : SlotNo) : u.slot n = s.slot n := by
  simp only [State.slot, h.slots]

/-- What comes before and after the act on the slot. -/
theorem State.ActsOn.between {s t u v : State} {n : SlotNo} (before : s.SameSlots t) (acts : t.ActsOn u n)
    (after : u.SameSlots v) : s.ActsOn v n :=
  ⟨after.now.trans (acts.now.trans before.now), after.groups.trans (acts.groups.trans before.groups),
    fun m hm => by rw [after.slot, acts.others m hm, before.slot], by rw [← before.slot]; exact acts.live,
    by rw [after.slot]; exact acts.unopened⟩

theorem State.SameSlots.refl (s : State) : s.SameSlots s := ⟨rfl, rfl, rfl⟩

theorem State.Enters.now {lawful : Prop} {s t : State} {n : SlotNo} {h : Held} (enters : s.Enters lawful n h t) :
    t.now = s.now := by
  cases enters with
  | complete => rfl
  | scheduled => rfl
  | parked => exact s.park_now n h

/-- A live slot that becomes COMPLETE, SCHEDULED or PARKED. -/
theorem State.Enters.actsOn {lawful : Prop} {s t : State} {n : SlotNo} {h : Held} (enters : s.Enters lawful n h t)
    (hlive : (s.slot n).isLive = true) : s.ActsOn t n := by
  obtain ⟨⟨x, -, -, hslot⟩, -, -⟩ := enters.unclaimed
  obtain ⟨hopened, hgroups⟩ := enters.opened
  exact ⟨enters.now, hgroups, fun m hm => by rw [hslot, if_neg hm], hlive, by rw [hopened, if_pos rfl]⟩

theorem State.actsOn_complete {s : State} {n : SlotNo} (h : Held) (status : Status) (hlive : (s.slot n).isLive = true) :
    s.ActsOn (s.complete n h status) n :=
  (State.Enters.complete (lawful := False) status).actsOn hlive

/-- A continuation makes its slot COMPLETE, SCHEDULED or PARKED. -/
theorem State.actsOn_continuation {s : State} {n : SlotNo} (h : Held) (base : Tick) (behind : Nat)
    (hlive : (s.slot n).isLive = true) : s.ActsOn (s.continuation n h base behind) n := by
  rcases s.continuation_cases n h base behind with ⟨-, e⟩ | ⟨-, hagain, e⟩ | ⟨-, -, -, e⟩ | ⟨-, -, -, e⟩ <;> rw [e]
  · exact State.actsOn_complete h _ hlive
  · refine (State.Enters.scheduled (lawful := False) (hagain.imp_right fun hpos hzero => ?_) False.elim).actsOn hlive
    rw [hzero] at hpos
    exact absurd hpos (lt_irrefl 0)
  · exact (State.Enters.parked (lawful := False) rfl).actsOn hlive
  · exact State.actsOn_complete h _ hlive

/-- A slot that leaves its collection and completes. -/
theorem State.Leaves.actsOn_complete {s u : State} {n : SlotNo} {h : Held} (leaves : s.Leaves n h u) (status : Status) :
    s.ActsOn (u.complete n h status) n :=
  .between leaves.sameSlots (State.actsOn_complete h status (leaves.sameSlots.slot n ▸ leaves.live)) (.refl _)

/-! ### The claims of a firing released (R59, R75, R134) -/

theorem State.releaseClaims_of_pulse (s : State) {h : Held} {l : LineNo} (hline : h.action.line = some l)
    (hkind : h.action.kind ≠ .strobe) :
    s.releaseClaims h = s.setLine l { s.line l with isActive := false, claim := none } := by
  unfold State.releaseClaims
  rw [if_neg hkind, hline, State.onLine_some]

theorem State.releaseClaims_of_strobe (s : State) {h : Held} {l : LineNo} {c : ChanNo} (hline : h.action.line = some l)
    (hkind : h.action.kind = .strobe) (hchannel : h.action.channel = some c) :
    s.releaseClaims h
      = (s.setLine l { s.line l with isActive := false, claim := none }).setChannel c
          { s.channel c with ackClaim := none } := by
  unfold State.releaseClaims
  rw [if_pos hkind, hline, hchannel, State.onLine_some, State.onChannel_some]
  rfl

/-! ### CANCEL of a placed slot (R14 to R17) -/

/-- A CANCEL that ends a placed slot: the slot completes CANCELLED, and the commits that this made due execute. -/
theorem exec_cancel_of_leaves {s u v : State} {n : SlotNo} {h : Held} (hbusy : s.cu.busy = true)
    (hcode : s.cu.code = 0x02#8) (hn : (s.param 0).toNat = n.val) (leaves : s.Leaves n h v)
    (hcancel : s.cancelSlot n = some (v.complete n h .cancelled).runEndedCommits) (hu : v.complete n h .cancelled = u)
    {found : Byte} (hfound : byteOfNat (s.slot n).code = found) :
    exec .cancel s = .next (u.runEndedCommits.accepted [found]) ∧ (s.NoCommitWaitsFor n → u.runEndedCommits = u) := by
  subst hu hfound
  refine ⟨?_, (leaves.actsOn_complete .cancelled).runEndedCommits⟩
  rw [exec_cancel_of_latched s ⟨hbusy, hcode⟩,
    State.replyCancel_of_cancelSlot_some s _ n ((slotOf_eq_some_iff _ n).mpr hn) hcancel, State.finish_ok]

/-- Settles O21: the slot leaves the collection of its state, and completes. -/
theorem cancelEndsAPlacedSlot : Obligations.CancelEndsAPlacedSlot := by
  intro s n h hbusy hcode hn
  refine ⟨fun due hslot => ?scheduled, fun c hslot hchannel => ?parked,
    fun leadDue leadTime leadPast l hslot hline hkind => ?pulse,
    fun leadDue leadTime leadPast l c hslot hline hkind hchannel => ?strobe⟩
  case scheduled =>
    exact exec_cancel_of_leaves hbusy hcode hn (.scheduled hslot .withdrawn) (by rw [State.cancelSlot, hslot]; rfl) rfl
      (by rw [hslot]; rfl)
  case parked =>
    refine exec_cancel_of_leaves hbusy hcode hn (.parked hslot) (by rw [State.cancelSlot, hslot]) ?_ (by rw [hslot]; rfl)
    rw [State.unpark, hchannel]
    rfl
  case pulse =>
    refine exec_cancel_of_leaves hbusy hcode hn (.active hslot .withdrawn) (by rw [State.cancelSlot, hslot]; rfl) ?_
      (by rw [hslot]; rfl)
    rw [State.releaseClaims_of_pulse _ hline (by rw [hkind]; decide)]
    rfl
  case strobe =>
    refine exec_cancel_of_leaves hbusy hcode hn (.active hslot .withdrawn) (by rw [State.cancelSlot, hslot]; rfl) ?_
      (by rw [hslot]; rfl)
    rw [State.releaseClaims_of_strobe _ hline hkind hchannel]
    rfl

/-! ### FORCE (R77 to R79) -/

theorem exec_force_of_latched (s : State) (h : s.latched codeForce) : exec .force s = .next (s.finish s.replyForce) :=
  congrArg Host.Outcome.next (if_pos h)

theorem activeOfCode_eq (b : Byte) : activeOfCode b = if b.toNat ≤ 1 then some (b.toNat == 1) else none := by
  unfold activeOfCode
  split
  · rename_i h; simp [h]
  · rename_i h; simp [h]
  · rename_i h0 h1
    have hzero : b.toNat ≠ 0 := h0
    have hone : b.toNat ≠ 1 := h1
    rw [if_neg (by omega)]

theorem Bool.byteOfNat_toNat (b : Bool) : byteOfNat b.toNat = if b then 1 else 0 := by cases b <;> rfl

/-- The checks of a FORCE on a named line, in order (R77). -/
theorem State.replyForce_of_line {s : State} {l : LineNo} (hl : (s.param 0).toNat = l.val) :
    s.replyForce =
      if 1 < (s.param 1).toNat then .error .badCfg
      else match (s.line l).claim with
        | none => .ok (s.driveLine l ((s.param 1).toNat == 1), [if (s.line l).isActive then 1 else 0, 0xFF#8])
        | some n =>
          if (s.param 2).getLsbD 0 = false then .error .lineBusy
          else .ok (((s.breakFiring l n).driveLine l ((s.param 1).toNat == 1)).runEndedCommits,
            [if (s.line l).isActive then 1 else 0, BitVec.ofNat 8 n.val]) := by
  unfold State.replyForce
  simp only [lineOf_of_toNat_eq _ l hl, activeOfCode_eq]
  by_cases habove : 1 < (s.param 1).toNat
  · rw [if_neg (not_le.mpr habove), if_pos habove]
  · rw [if_pos (not_lt.mp habove), if_neg habove]
    simp only [Bool.byteOfNat_toNat]
    rfl

/-- The FORCE breaks the firing of slot `n`, and the commits that this made due execute. -/
theorem exec_force_of_broken {s v u : State} {l : LineNo} {n : SlotNo} {h : Held} {leadDue leadTime : Tick} {leadPast : Nat}
    (hbusy : s.cu.busy = true) (hcode : s.cu.code = 0x07#8) (hl : (s.param 0).toNat = l.val)
    (hlevel : (s.param 1).toNat ≤ 1) (hclaim : (s.line l).claim = some n) (hbreak : (s.param 2).getLsbD 0 = true)
    (hslot : s.slot n = .active h leadDue leadTime leadPast)
    (hv : (s.setCalendar (s.calendar.filter (fun e => e.slot != n))).releaseClaims h = v)
    (hu : (v.complete n h .broken).driveLine l ((s.param 1).toNat == 1) = u) :
    exec .force s = .next (u.runEndedCommits.accepted [if (s.line l).isActive then 1 else 0, BitVec.ofNat 8 n.val]) ∧
      s.ActsOn u n := by
  subst hv hu
  have leaves : s.Leaves n h _ := .active hslot .withdrawn
  refine ⟨?_, .between (.refl s) (leaves.actsOn_complete .broken) ⟨rfl, rfl, rfl⟩⟩
  rw [exec_force_of_latched s ⟨hbusy, hcode⟩, State.replyForce_of_line hl, if_neg (not_lt.mpr hlevel)]
  simp only [hclaim]
  rw [if_neg (by rw [hbreak]; decide), State.finish_ok, State.breakFiring, hslot]
  rfl

/-- Settles O30: the checks in order, the line driven, and the firing broken with its claims. -/
theorem forceSetsTheLine : Obligations.ForceSetsTheLine := by
  intro s hbusy hcode
  have hfinish : exec .force s = .next (s.finish s.replyForce) := exec_force_of_latched s ⟨hbusy, hcode⟩
  refine ⟨fun habove => ?badLine, fun l hl => ?named⟩
  case badLine =>
    rw [hfinish, State.replyForce, (lineOf_eq_none_iff _).mpr habove, State.finish_error]
  case named =>
    have hreply := State.replyForce_of_line hl
    refine ⟨fun habove => ?badCfg, fun hlevel hclaim hbreak => ?lineBusy, fun hlevel hclaim => ?unclaimed,
      fun n h leadDue leadTime leadPast hlevel hclaim hbreak hslot hline =>
        ⟨fun hkind => ?pulse, fun c hkind hchannel => ?strobe⟩⟩
    case badCfg => rw [hfinish, hreply, if_pos habove, State.finish_error]
    case lineBusy =>
      obtain ⟨n, hn⟩ := Option.ne_none_iff_exists'.mp hclaim
      rw [hfinish, hreply, if_neg (not_lt.mpr hlevel)]
      simp only [hn]
      rw [if_pos hbreak, State.finish_error]
    case unclaimed =>
      rw [if_neg (not_lt.mpr hlevel)] at hreply
      simp only [hclaim] at hreply
      rw [hfinish, hreply, State.finish_ok]
      rfl
    case pulse =>
      obtain ⟨hexec, hacts⟩ := exec_force_of_broken hbusy hcode hl hlevel hclaim hbreak hslot
        (State.releaseClaims_of_pulse _ hline (by rw [hkind]; decide)) rfl
      simp only [State.driveLine, State.complete_line, State.line_setLine_self] at hexec hacts
      simp only [State.setLine, State.complete_lines, Vector.set_set] at hexec hacts
      exact ⟨hexec, hacts.runEndedCommits⟩
    case strobe =>
      obtain ⟨hexec, hacts⟩ := exec_force_of_broken hbusy hcode hl hlevel hclaim hbreak hslot
        (State.releaseClaims_of_strobe _ hline hkind hchannel) rfl
      simp only [State.driveLine, State.complete_line, State.setChannel_line, State.line_setLine_self] at hexec hacts
      simp only [State.setLine, State.complete_lines, State.setChannel_lines, Vector.set_set] at hexec hacts
      exact ⟨hexec, hacts.runEndedCommits⟩

end Sys2Proof.Machine
end

section
/-! The capture log with FLUSH (Sections 8.2 and 8.3), and the continuation (Section 4.4). -/

namespace Sys2Proof.Machine

theorem exec_flush_of_latched (s : State) (h : s.latched codeFlush) : exec .flush s = .next (s.finish s.replyFlush) :=
  congrArg Host.Outcome.next (if_pos h)

/-- Settles O40: a full log keeps its records but for the newest one's mark, and LOGMARK and LOGOVR read the log that FLUSH
empties. -/
theorem captureLogAppendsAndFlush : Obligations.CaptureLogAppendsAndFlush := by
  refine ⟨fun s c => ⟨fun hroom => if_pos hroom, fun older newest hlog hfull => ?full⟩, fun s hbusy hcode => ?flush⟩
  case full =>
    have happend : s.appendCapture c = { s with log := older ++ [{ newest with overrun := true }] } := by
      unfold State.appendCapture
      rw [if_neg (show ¬ s.log.length < Config.logCapacity from not_lt.mpr hfull), hlog, markNewest_append]
      rfl
    refine ⟨happend, ?_⟩
    rw [State.causeBits_logovr_iff, happend]
    exact ⟨{ newest with overrun := true }, List.mem_append_right _ (List.mem_singleton_self _), rfl⟩
  case flush =>
    have hmarked : byteOfNat (s.log.any (·.overrun)).toNat = if ∃ c ∈ s.log, c.overrun = true then 1 else 0 := by
      rw [Bool.byteOfNat_toNat]
      exact if_congr List.any_eq_true rfl rfl
    refine ⟨_, exec_flush_of_latched s ⟨hbusy, hcode⟩, ?_, ?_, ?_⟩
    · rw [State.replyFlush, State.finish_ok, hmarked]
      rfl
    · rw [State.replyFlush, State.finish_ok, Bool.eq_false_iff, Ne, State.causeBits_logmark_iff]
      rintro ⟨hne, hle⟩
      exact hne (Nat.le_zero.mp hle)
    · rw [State.replyFlush, State.finish_ok, Bool.eq_false_iff, Ne, State.causeBits_logovr_iff]
      rintro ⟨c, hc, -⟩
      exact absurd hc List.not_mem_nil

/-! ### The continuation (R70 to R73) -/

theorem half_eq_zero_iff (x : Half) : x = 0 ↔ x.toNat = 0 :=
  ⟨fun h => by rw [h]; rfl, fun h => BitVec.eq_of_toNat_eq h⟩

theorem zeroExtend_eq_ofNat {w : Nat} (x : BitVec w) : x.zeroExtend 32 = BitVec.ofNat 32 x.toNat :=
  (BitVec.ofNat_toNat 32 x).symm

/-- The distance of a re-arm whose base lies `behind` ticks behind now (R38, R52; log 19). -/
theorem distance_rearm {now base : Tick} {n : SlotNo} {behind : Nat} (period : BitVec 24)
    (h : now - base = BitVec.ofNat 32 behind) :
    (Entry.mk n .lead (base + BitVec.ofNat 32 period.toNat) (behind - (period.toNat + 2147483648))).distance now
      = max ((period.toNat : Int) - behind) (-2147483648) := by
  have hperiod := period.isLt
  unfold Entry.distance
  by_cases hnear : behind ≤ period.toNat + 2147483648
  · have hzero : behind - (period.toNat + 2147483648) = 0 := Nat.sub_eq_zero_of_le hnear
    have hsub : base + BitVec.ofNat 32 period.toNat - now = BitVec.ofInt 32 ((period.toNat : Int) - behind) := by
      calc base + BitVec.ofNat 32 period.toNat - now = BitVec.ofNat 32 period.toNat - (now - base) := by ring
        _ = BitVec.ofInt 32 ((period.toNat : Int) - behind) := by
          refine BitVec.eq_of_toInt_eq ?_
          rw [h, BitVec.toInt_sub, BitVec.toInt_ofNat', BitVec.toInt_ofNat', BitVec.toInt_ofInt, Int.bmod_sub_bmod,
            Int.sub_bmod_bmod]
    rw [if_pos hzero, Machine.distance, hsub, BitVec.toInt_ofInt, Int.bmod_eq_of_le (by omega) (by omega)]
    omega
  · rw [if_neg (by simp only; omega), Config.lowestDistance]
    omega

/-- Settles O42: the four outcomes in their order, and the distance that the re-arm's entry has. -/
theorem continuationTakesTheFirstOutcome : Obligations.ContinuationTakesTheFirstOutcome := by
  intro s n h base behind
  have hagain : (h.action.count.toNat = 0 ∨ 0 < h.remaining.toNat) ↔ (h.action.count = 0 ∨ 0 < h.remaining.toNat) := by
    rw [half_eq_zero_iff]
  refine ⟨fun hpending => ?superseded, fun hpending again => ?rearm, fun c hpending again hrearm hchannel => ?repark,
    fun hpending again hrearm => ?done⟩
  case superseded =>
    unfold State.continuation
    rw [if_pos hpending]
    rfl
  case rearm =>
    refine ⟨⟨n, .lead, base + BitVec.ofNat 32 h.action.period.toNat, behind - (h.action.period.toNat + 2147483648)⟩, ?_, rfl,
      rfl, rfl, rfl, fun hbehind => ?_⟩
    · unfold State.continuation
      rw [if_neg (by rw [hpending]; decide), if_pos (hagain.mp again), State.rearm, zeroExtend_eq_ofNat]
      rfl
    · have hperiod := h.action.period.isLt
      rw [distance_rearm h.action.period hbehind]
      exact ⟨rfl, by omega, fun hlate => by omega⟩
  case repark =>
    unfold State.continuation
    rw [if_neg (by rw [hpending]; decide), if_neg (again ∘ hagain.mpr), if_pos hrearm, State.park,
      show h.reloaded.action.channel = some c from hchannel]
    rfl
  case done =>
    unfold State.continuation
    rw [if_neg (by rw [hpending]; decide), if_neg (again ∘ hagain.mpr), if_neg (by rw [hrearm]; decide)]
    rfl

end Sys2Proof.Machine
end

section
/-! The channels: selected edges by mode, and the expiries that an edge follows (Sections 6.2 to 6.5). -/

namespace Sys2Proof.Machine

/-! ### What the model's tests on a channel say -/

theorem EdgeSetting.selects_iff (e : EdgeSetting) (dir : EdgeDir) :
    e.selects dir = true ↔ e = .both ∨ (e = .rise ∧ dir = .rising) ∨ (e = .fall ∧ dir = .falling) := by
  cases e <;> cases dir <;> decide

/-- The interval violates the channel's limit (R116). -/
abbrev Channel.Violates (c : Channel) (interval : Tick) : Prop :=
  c.limit ≠ 0 ∧
    ((c.sense = .shorter ∧ interval.toNat < c.limit.toNat) ∨ (c.sense = .longer ∧ c.limit.toNat < interval.toNat))

theorem Channel.isViolation_iff (c : Channel) (interval : Tick) : c.isViolation interval = true ↔ c.Violates interval := by
  unfold Channel.isViolation Channel.Violates
  cases c.sense <;> simp

/-- The flag of an INTERVAL record: the interval violates the limit, or its watch has expired (R116). -/
abbrev Channel.Flagged (c : Channel) (interval : Tick) : Prop := c.Violates interval ∨ c.violationMark = true

theorem Channel.isViolation_or_mark (c : Channel) (interval : Tick) :
    (c.isViolation interval || c.violationMark) = decide (c.Flagged interval) := by
  rw [Bool.eq_iff_iff, Bool.or_eq_true, c.isViolation_iff, decide_eq_true_iff]

theorem State.closingLaunches_iff (s : State) (ch : ChanNo) (r : Tick) :
    s.closingLaunches ch r = true ↔ (s.channel ch).launchSource = .violation ∧ (s.channel ch).Violates (s.now - r) ∧
      (s.channel ch).violationMark = false := by
  unfold State.closingLaunches
  rw [Bool.and_eq_true, Bool.and_eq_true, Channel.isViolation_iff, beq_iff_eq, Bool.not_eq_true', and_assoc]

/-! ### Records by the log policy (R125) -/

theorem State.logChannel_eq (s : State) (ch : ChanNo) (record : Capture) :
    s.logChannel ch record =
      if (s.channel ch).policy = .all ∨ ((s.channel ch).policy = .violations ∧ record.violation = true) then
        s.appendCapture record
      else s := by
  unfold State.logChannel
  cases (s.channel ch).policy with
  | all => exact (if_pos rfl).trans (if_pos (.inl rfl)).symm
  | violations => exact if_congr (by simp [LogPolicy.admits]) rfl rfl
  | none => exact (if_neg Bool.false_ne_true).trans (if_neg (by simp)).symm

theorem State.logChannel_of_unflagged (s : State) (ch : ChanNo) {record : Capture} (h : record.violation = false) :
    s.logChannel ch record = if (s.channel ch).policy = .all then s.appendCapture record else s :=
  (s.logChannel_eq ch record).trans (if_congr (by simp [h]) rfl rfl)

theorem State.logChannel_of_flagged (s : State) (ch : ChanNo) {record : Capture} (h : record.violation = true) :
    s.logChannel ch record =
      if (s.channel ch).policy = .all ∨ (s.channel ch).policy = .violations then s.appendCapture record else s :=
  (s.logChannel_eq ch record).trans (if_congr (by simp [h]) rfl rfl)

theorem State.logInterval_eq (s : State) (ch : ChanNo) (dir : EdgeDir) (r : Tick) :
    s.logInterval ch dir r =
      if (s.channel ch).policy = .all ∨ ((s.channel ch).policy = .violations ∧ (s.channel ch).Flagged (s.now - r)) then
        s.appendCapture
          (channelCapture ch .interval (dir == .rising) (decide ((s.channel ch).Flagged (s.now - r))) s.now (some (s.now - r)))
      else s := by
  unfold State.logInterval
  simp only []
  rw [State.logChannel_eq, Channel.isViolation_or_mark, edgeFlag_eq]
  exact if_congr (or_congr_right (and_congr_right fun _ => decide_eq_true_iff)) rfl rfl

theorem State.logged_logInterval (s : State) (ch : ChanNo) (dir : EdgeDir) (r : Tick) : s.Logged (s.logInterval ch dir r) :=
  s.logged_logChannel ch _

/-- A record leaves the channels alone, so the channel's update may read the state before it. -/
theorem State.Logged.setChannel {s u : State} (h : s.Logged u) (ch : ChanNo) (f : Channel → Channel) :
    u.setChannel ch (f (u.channel ch)) = { u with channels := s.channels.set ch.val (f (s.channel ch)) ch.isLt } := by
  obtain ⟨l, rfl, -⟩ := h
  rfl

/-! ### Edges by mode -/

theorem exec_edge_of_running {s : State} (ch : ChanNo) (dir : EdgeDir) (h : s.tb.state = .running) :
    exec (.edge ch dir) s = .next ((s.setPin ch (dir == .rising)).observeEdge ch dir) := by
  rw [← edgeFlag_eq]
  exact congrArg Host.Outcome.next (if_pos (by simp [State.running, h]))

section
variable {s : State} {ch : ChanNo} {dir : EdgeDir}

theorem State.observeEdge_of_off (h : (s.channel ch).mode = .off) : s.observeEdge ch dir = s := by
  simp only [State.observeEdge, h]

theorem State.observeEdge_of_unselected
    (hmode : (s.channel ch).mode = .stamp ∨ (s.channel ch).mode = .period ∨ (s.channel ch).mode = .ack)
    (hedge : ¬ (s.channel ch).edge.selects dir = true) : s.observeEdge ch dir = s := by
  obtain hmode | hmode | hmode := hmode <;> simp only [State.observeEdge, hmode, if_neg hedge]

theorem State.observeEdge_of_stamp (hmode : (s.channel ch).mode = .stamp) (hedge : (s.channel ch).edge.selects dir = true) :
    s.observeEdge ch dir = s.stampEdge ch dir := by
  simp only [State.observeEdge, hmode, if_pos hedge]

theorem State.observeEdge_of_period (hmode : (s.channel ch).mode = .period) (hedge : (s.channel ch).edge.selects dir = true) :
    s.observeEdge ch dir = (s.catchUp ch).periodEdge ch dir := by
  simp only [State.observeEdge, hmode, if_pos hedge]

theorem State.observeEdge_of_width (hmode : (s.channel ch).mode = .width) :
    s.observeEdge ch dir =
      if (s.channel ch).edge.selects dir = true then (s.catchUp ch).openInterval ch else (s.catchUp ch).widthClose ch dir := by
  simp only [State.observeEdge, hmode]

theorem State.observeEdge_of_ack (hmode : (s.channel ch).mode = .ack) (hedge : (s.channel ch).edge.selects dir = true) :
    s.observeEdge ch dir = s.ackEdge ch dir := by
  simp only [State.observeEdge, hmode, if_pos hedge]

/-- With no expiry before now, an edge has none to follow. -/
theorem State.catchUp_of_early (hwatch : ∀ d : Tick, (s.channel ch).watch = some d → 0 ≤ distance s.now d)
    (hreference : ∀ r : Tick, (s.channel ch).reference = some r → (s.now - r).toNat ≤ 2147483647) : s.catchUp ch = s := by
  have hwatched : ∀ d, (s.channel ch).watch = some d → (if distance s.now d < 0 then s.expireWatch ch d else s) = s :=
    fun d hd => if_neg (not_lt.mpr (hwatch d hd))
  have hkept : ∀ r, (s.channel ch).reference = some r →
      (if Config.referenceLife < (s.now - r).toNat then s.dropReference ch else s) = s :=
    fun r hr => if_neg (not_lt.mpr (hreference r hr))
  unfold State.catchUp
  simp only
  cases hw : (s.channel ch).watch with
  | none =>
    cases hr : (s.channel ch).reference with
    | none => rfl
    | some r => exact hkept r hr
  | some d =>
    simp only [hwatched d hw]
    cases hr : (s.channel ch).reference with
    | none => rfl
    | some r => exact hkept r hr

end

/-- Settles O43: by the mode, and in STAMP mode by the log policy. -/
theorem unselectedAndStampEdges : Obligations.UnselectedAndStampEdges := by
  intro s ch dir hrun c selected seen
  have hselected : (seen.channel ch).edge.selects dir = true ↔ selected := EdgeSetting.selects_iff _ _
  rw [exec_edge_of_running ch dir hrun]
  refine ⟨fun hoff => congrArg _ (State.observeEdge_of_off (s := seen) hoff),
    fun hmode hedge => congrArg _ (State.observeEdge_of_unselected (s := seen) hmode (hedge ∘ hselected.mp)),
    fun hstamp hedge => congrArg _ ?_⟩
  calc seen.observeEdge ch dir = seen.stampEdge ch dir := State.observeEdge_of_stamp hstamp (hselected.mpr hedge)
    _ = _ := by
      unfold State.stampEdge
      rw [State.logChannel_of_unflagged _ ch rfl, edgeFlag_eq]
      rfl

/-- Settles O44: by the reference that the edge finds. -/
theorem periodEdgeMeasures : Obligations.PeriodEdgeMeasures := by
  intro s ch dir hrun hmode hedge hwatch hreference c seen next
  have hobserve : seen.observeEdge ch dir = seen.periodEdge ch dir := by
    rw [State.observeEdge_of_period (s := seen) hmode ((EdgeSetting.selects_iff _ _).mpr hedge),
      State.catchUp_of_early (s := seen) hwatch hreference]
  rw [exec_edge_of_running ch dir hrun]
  refine ⟨fun hnone => congrArg _ ?opens, fun r hr => congrArg _ ?closes⟩
  case opens =>
    have hseen : (seen.channel ch).reference = none := hnone
    refine hobserve.trans ?_
    simp only [State.periodEdge, hseen]
    rfl
  case closes =>
    have hseen : (seen.channel ch).reference = some r := hr
    refine hobserve.trans ?_
    simp only [State.periodEdge, hseen]
    unfold State.periodClose
    simp only []
    rw [(seen.logged_logInterval ch dir r).setChannel ch (·.restarted seen.now), State.logInterval_eq]
    refine if_congr ?_ rfl rfl
    rw [State.closingLaunches_iff]
    refine or_congr_right' fun hnot => ⟨And.right, fun h => ⟨?_, h⟩⟩
    cases hsource : (seen.channel ch).launchSource with
    | edge => exact absurd hsource hnot
    | violation => rfl

/-- Settles O45: by the edge and the reference that it finds. -/
theorem widthEdgeMeasures : Obligations.WidthEdgeMeasures := by
  intro s ch dir hrun hmode hboth hwatch hreference c starts seen
  have hstarts : (seen.channel ch).edge.selects dir = true ↔ starts :=
    (EdgeSetting.selects_iff _ _).trans (or_iff_right hboth)
  have hobserve : seen.observeEdge ch dir =
      if (seen.channel ch).edge.selects dir = true then seen.openInterval ch else seen.widthClose ch dir := by
    rw [State.observeEdge_of_width (s := seen) hmode, State.catchUp_of_early (s := seen) hwatch hreference]
  rw [exec_edge_of_running ch dir hrun]
  refine ⟨fun hopens => congrArg _ ?opens, fun hnot hnone => congrArg _ ?ignored, fun r hnot hr => congrArg _ ?closes⟩
  case opens => exact hobserve.trans (if_pos (hstarts.mpr hopens))
  case ignored =>
    have hseen : (seen.channel ch).reference = none := hnone
    refine hobserve.trans ((if_neg (hnot ∘ hstarts.mp)).trans ?_)
    simp only [State.widthClose, hseen]
  case closes =>
    have hseen : (seen.channel ch).reference = some r := hr
    refine hobserve.trans ((if_neg (hnot ∘ hstarts.mp)).trans ?_)
    simp only [State.widthClose, hseen]
    rw [(seen.logged_logInterval ch dir r).setChannel ch Channel.cleared, State.logInterval_eq]
    exact if_congr (State.closingLaunches_iff _ _ _) rfl rfl

/-! ### Expiries -/

section
variable {s : State} {ch : ChanNo}

theorem exec_watchExpiry_of_running (h : s.tb.state = .running) : exec (.watchExpiry ch) s = .next (s.takeReachedWatch ch) :=
  congrArg Host.Outcome.next (if_pos (by simp [State.running, h]))

theorem exec_referenceExpiry_of_expired (h : s.tb.state = .running) {r : Tick} (hr : (s.channel ch).reference = some r)
    (hold : 2147483647 ≤ (s.now - r).toNat) :
    exec (.referenceExpiry ch) s = .next ((s.takeReachedWatch ch).dropReference ch) :=
  congrArg Host.Outcome.next (if_pos ⟨by simp [State.running, h], by
    simp only [State.referenceExpired, hr]
    exact decide_eq_true hold⟩)

theorem exec_referenceExpiry_of_young (h : ∀ r, (s.channel ch).reference = some r → (s.now - r).toNat < 2147483647) :
    exec (.referenceExpiry ch) s = .next s := by
  refine congrArg Host.Outcome.next (if_neg ?_)
  rintro ⟨-, hexpired⟩
  unfold State.referenceExpired at hexpired
  cases hr : (s.channel ch).reference with
  | none => simp [hr] at hexpired
  | some r =>
    simp only [hr] at hexpired
    exact absurd (of_decide_eq_true hexpired) (not_le.mpr (h r hr))

theorem State.takeReachedWatch_of_none (h : (s.channel ch).watch = none) : s.takeReachedWatch ch = s := by
  simp only [State.takeReachedWatch, State.reachedWatch, h, Option.filter_none]

theorem State.takeReachedWatch_of_some {d : Tick} (h : (s.channel ch).watch = some d) :
    s.takeReachedWatch ch = if distance s.now d ≤ 0 then s.expireWatch ch d else s := by
  unfold State.takeReachedWatch State.reachedWatch
  by_cases hreached : distance s.now d ≤ 0 <;> simp [h, Option.filter, hreached]

theorem exec_watchExpiry_of_reached {d : Tick} (hrun : s.tb.state = .running) (hd : (s.channel ch).watch = some d)
    (hreached : distance s.now d ≤ 0) : exec (.watchExpiry ch) s = .next (s.expireWatch ch d) := by
  rw [exec_watchExpiry_of_running hrun, State.takeReachedWatch_of_some hd, if_pos hreached]

end

theorem State.expireWatch_tb (s : State) (ch : ChanNo) (d : Tick) : (s.expireWatch ch d).tb = s.tb := by
  unfold State.expireWatch
  obtain ⟨l, hlogged, -⟩ := s.logged_logChannel ch (channelCapture ch .watch false true d (some (s.channel ch).limit))
  simp only [hlogged]
  split
  · exact congrArg (fun fields => fields.1) (State.launch_untouched _ ch d).1
  · rfl

/-- The WATCH record, appended as the log policy decides (R122). -/
def State.watchLogged (s : State) (ch : ChanNo) (d : Tick) : State :=
  if (s.channel ch).policy = .all ∨ (s.channel ch).policy = .violations then
    s.appendCapture (channelCapture ch .watch false true d (some (s.channel ch).limit))
  else s

/-- The record and the mark of an expiry, before its launch (R122). -/
def State.watchMarked (s : State) (ch : ChanNo) (d : Tick) : State :=
  { s.watchLogged ch d with
    channels := s.channels.set ch.val { s.channel ch with violationMark := true, watch := none } ch.isLt }

theorem State.expireWatch_eq (s : State) (ch : ChanNo) (d : Tick) :
    s.expireWatch ch d =
      if (s.channel ch).launchSource = .violation then (s.watchMarked ch d).launch ch d else s.watchMarked ch d := by
  have hlogged : s.logChannel ch (channelCapture ch .watch false true d (some (s.channel ch).limit)) = s.watchLogged ch d :=
    s.logChannel_of_flagged ch rfl
  have hmarked := (hlogged ▸ s.logged_logChannel ch _ : s.Logged (s.watchLogged ch d)).setChannel ch
    fun c => { c with violationMark := true, watch := none }
  unfold State.expireWatch
  simp only [hlogged]
  exact if_congr Iff.rfl (congrArg (State.launch · ch d) hmarked) hmarked

/-! ### The level of a pin and an expiry are independent -/

theorem State.launch_setPin (s : State) (ch : ChanNo) (trigger : Tick) (k : ChanNo) (high : Bool) :
    (s.setPin k high).launch ch trigger = (s.launch ch trigger).setPin k high := by
  unfold State.launch
  refine List.foldl_hom (f := (State.setPin · k high))
    (init := s.setChannel ch { s.channel ch with parked := [] }) fun u n => ?_
  have hslot : (u.setPin k high).slot n = u.slot n := rfl
  unfold State.launchSlot
  rw [hslot]
  cases u.slot n <;> rfl

theorem State.appendCapture_setPin (s : State) (c : Capture) (k : ChanNo) (high : Bool) :
    (s.setPin k high).appendCapture c = (s.appendCapture c).setPin k high := by
  rw [State.appendCapture_eq, State.appendCapture_eq]
  rfl

theorem State.watchLogged_setPin (s : State) (ch : ChanNo) (d : Tick) (k : ChanNo) (high : Bool) :
    (s.setPin k high).watchLogged ch d = (s.watchLogged ch d).setPin k high := by
  unfold State.watchLogged
  rw [State.appendCapture_setPin]
  exact (apply_ite (State.setPin · k high) _ _ _).symm

theorem State.watchMarked_setPin (s : State) (ch : ChanNo) (d : Tick) (k : ChanNo) (high : Bool) :
    (s.setPin k high).watchMarked ch d = (s.watchMarked ch d).setPin k high := by
  unfold State.watchMarked
  rw [State.watchLogged_setPin]
  rfl

theorem State.expireWatch_setPin (s : State) (ch : ChanNo) (d : Tick) (k : ChanNo) (high : Bool) :
    (s.setPin k high).expireWatch ch d = (s.expireWatch ch d).setPin k high := by
  rw [State.expireWatch_eq, State.expireWatch_eq, State.watchMarked_setPin, State.launch_setPin]
  exact (apply_ite (State.setPin · k high) _ _ _).symm

/-! ### Edges after an expiry -/

/-- A watch strictly before now expires before an edge. -/
def State.watchCaughtUp (s : State) (ch : ChanNo) : State :=
  match (s.channel ch).watch with
  | none => s
  | some d => if distance s.now d < 0 then s.expireWatch ch d else s

theorem State.watchCaughtUp_of_none {s : State} {ch : ChanNo} (h : (s.channel ch).watch = none) : s.watchCaughtUp ch = s := by
  simp only [State.watchCaughtUp, h]

theorem State.watchCaughtUp_of_passed {s : State} {ch : ChanNo} {d : Tick} (h : (s.channel ch).watch = some d)
    (hpassed : distance s.now d < 0) : s.watchCaughtUp ch = s.expireWatch ch d := by
  simp only [State.watchCaughtUp, h, if_pos hpassed]

theorem State.watchCaughtUp_eq_takeReachedWatch {s : State} {ch : ChanNo}
    (h : ∀ d : Tick, (s.channel ch).watch = some d → distance s.now d ≠ 0) :
    s.watchCaughtUp ch = s.takeReachedWatch ch := by
  cases hw : (s.channel ch).watch with
  | none => rw [State.watchCaughtUp_of_none hw, State.takeReachedWatch_of_none hw]
  | some d =>
    rw [State.takeReachedWatch_of_some hw]
    simp only [State.watchCaughtUp, hw]
    exact if_congr (lt_iff_le_and_ne.trans (and_iff_left (h d hw))) rfl rfl

theorem State.watchCaughtUp_setPin (s : State) (ch k : ChanNo) (high : Bool) :
    (s.setPin k high).watchCaughtUp ch = (s.watchCaughtUp ch).setPin k high := by
  have hchannel : (s.setPin k high).channel ch = s.channel ch := rfl
  unfold State.watchCaughtUp
  rw [hchannel]
  cases (s.channel ch).watch with
  | none => rfl
  | some d =>
    simp only [State.expireWatch_setPin]
    exact (apply_ite (State.setPin · k high) _ _ _).symm

theorem State.catchUp_of_young {s : State} {ch : ChanNo}
    (h : ∀ r : Tick, (s.channel ch).reference = some r → ¬ 2147483647 < (s.now - r).toNat) :
    s.catchUp ch = s.watchCaughtUp ch := by
  unfold State.catchUp
  cases hr : (s.channel ch).reference with
  | none => rfl
  | some r => exact if_neg (h r hr)

theorem State.catchUp_of_old {s : State} {ch : ChanNo} {r : Tick} (hr : (s.channel ch).reference = some r)
    (h : 2147483647 < (s.now - r).toNat) : s.catchUp ch = (s.watchCaughtUp ch).dropReference ch := by
  unfold State.catchUp
  simp only [hr]
  exact if_pos h

theorem State.catchUp_congr {s u : State} {ch : ChanNo} (hreference : (u.channel ch).reference = (s.channel ch).reference)
    (hnow : u.now = s.now) (hwatched : u.watchCaughtUp ch = s.watchCaughtUp ch) : u.catchUp ch = s.catchUp ch := by
  by_cases hold : ∃ r, (s.channel ch).reference = some r ∧ 2147483647 < (s.now - r).toNat
  · obtain ⟨r, hr, hold⟩ := hold
    rw [State.catchUp_of_old hr hold, State.catchUp_of_old (hreference.trans hr) (hnow ▸ hold), hwatched]
  · have hyoung : ∀ r, (s.channel ch).reference = some r → ¬ 2147483647 < (s.now - r).toNat :=
      fun r hr h => hold ⟨r, hr, h⟩
    rw [State.catchUp_of_young hyoung, State.catchUp_of_young (by rw [hreference, hnow]; exact hyoung), hwatched]

theorem State.takeReachedWatch_kept (s : State) (ch : ChanNo) :
    (s.takeReachedWatch ch).tb = s.tb ∧ ((s.takeReachedWatch ch).channel ch).mode = (s.channel ch).mode ∧
      ((s.takeReachedWatch ch).channel ch).edge = (s.channel ch).edge := by
  unfold State.takeReachedWatch
  split
  · exact ⟨rfl, rfl, rfl⟩
  · exact ⟨s.expireWatch_tb ch _, by rw [s.channel_expireWatch], by rw [s.channel_expireWatch]⟩

/-- An edge that expiries precede sees of the channel only what the expiries leave of it, its mode and its edge setting. -/
theorem State.observeEdge_congr {s u : State} {ch : ChanNo} {dir : EdgeDir} (hmode : (u.channel ch).mode = (s.channel ch).mode)
    (hedge : (u.channel ch).edge = (s.channel ch).edge) (hcaught : u.catchUp ch = s.catchUp ch)
    (h : (s.channel ch).mode = .width ∨ ((s.channel ch).mode = .period ∧ (s.channel ch).edge.selects dir = true)) :
    u.observeEdge ch dir = s.observeEdge ch dir := by
  obtain hwidth | ⟨hperiod, hselected⟩ := h
  · rw [State.observeEdge_of_width hwidth, State.observeEdge_of_width (hmode.trans hwidth), hedge, hcaught]
  · rw [State.observeEdge_of_period hperiod hselected, State.observeEdge_of_period (hmode.trans hperiod) (hedge ▸ hselected),
      hcaught]

/-- Settles O47: an expiry by its formula, and an edge after one through what the edge has to catch up with. -/
theorem channelExpiries : Obligations.ChannelExpiries := by
  intro s ch hrun c
  refine ⟨fun hw => ?absent, fun d hd hfar => ?ahead, fun d hd hreached => ?reached, fun hr => ?none,
    fun r hr hyoung => ?young, fun r hr hold hw => ?dropped, fun r d t hr hold hd hreached ht => ?both, fun dir hmode => ?edge⟩
  case absent => rw [exec_watchExpiry_of_running hrun, State.takeReachedWatch_of_none hw]
  case ahead => rw [exec_watchExpiry_of_running hrun, State.takeReachedWatch_of_some hd, if_neg (not_le.mpr hfar)]
  case reached =>
    rw [exec_watchExpiry_of_reached hrun hd hreached, State.expireWatch_eq]
    rfl
  case none => exact exec_referenceExpiry_of_young fun r h => nomatch hr.symm.trans h
  case young =>
    refine exec_referenceExpiry_of_young fun r' h => ?_
    cases hr.symm.trans h
    exact hyoung
  case dropped =>
    rw [exec_referenceExpiry_of_expired hrun hr hold, State.takeReachedWatch_of_none hw]
    rfl
  case both =>
    rw [exec_watchExpiry_of_reached hrun hd hreached] at ht
    cases ht
    have htb := s.expireWatch_tb ch d
    have hchannel := s.channel_expireWatch ch d
    rw [exec_referenceExpiry_of_expired hrun hr hold, State.takeReachedWatch_of_some hd, if_pos hreached,
      exec_referenceExpiry_of_expired (s := s.expireWatch ch d) (r := r) (by rw [htb, hrun]) (by rw [hchannel]; exact hr)
        (by rw [State.now, htb]; exact hold),
      State.takeReachedWatch_of_none (by rw [hchannel])]
  case edge =>
    have hselected := (EdgeSetting.selects_iff c.edge dir).symm
    rw [hselected] at hmode
    refine ⟨fun d t hd hpassed ht => ?watch, fun r t hr hold hzero ht => ?reference⟩
    case watch =>
      rw [exec_watchExpiry_of_reached hrun hd hpassed.le] at ht
      cases ht
      have htb := s.expireWatch_tb ch d
      have hchannel := s.channel_expireWatch ch d
      rw [exec_edge_of_running ch dir hrun, exec_edge_of_running (s := s.expireWatch ch d) ch dir (by rw [htb, hrun])]
      refine congrArg _ (State.observeEdge_congr (s := s.setPin ch (dir == .rising))
        (u := (s.expireWatch ch d).setPin ch (dir == .rising)) (congrArg Channel.mode hchannel :)
        (congrArg Channel.edge hchannel :) ?_ hmode).symm
      refine State.catchUp_congr (congrArg Channel.reference hchannel :) (congrArg Timebase.value htb) ?_
      rw [State.watchCaughtUp_setPin, State.watchCaughtUp_setPin, State.watchCaughtUp_of_passed hd hpassed,
        State.watchCaughtUp_of_none (s := s.expireWatch ch d) (by rw [hchannel])]
    case reference =>
      rw [exec_referenceExpiry_of_expired hrun hr hold.le] at ht
      cases ht
      obtain ⟨htb, hkeepsMode, hkeepsEdge⟩ := s.takeReachedWatch_kept ch
      have hcleared : (((s.takeReachedWatch ch).dropReference ch).setPin ch (dir == .rising)).channel ch
          = ((s.takeReachedWatch ch).channel ch).cleared := State.channel_setChannel_self _ _ _
      rw [exec_edge_of_running ch dir hrun,
        exec_edge_of_running (s := (s.takeReachedWatch ch).dropReference ch) ch dir ((congrArg Timebase.state htb).trans hrun)]
      refine congrArg _ (State.observeEdge_congr (s := s.setPin ch (dir == .rising))
        (u := ((s.takeReachedWatch ch).dropReference ch).setPin ch (dir == .rising))
        (by rw [hcleared]; exact hkeepsMode) (by rw [hcleared]; exact hkeepsEdge) ?_ hmode).symm
      rw [State.catchUp_of_early (by rw [hcleared]; exact fun _ h => nomatch h) (by rw [hcleared]; exact fun _ h => nomatch h),
        State.catchUp_of_old (s := s.setPin ch (dir == .rising)) hr hold, State.watchCaughtUp_setPin,
        State.watchCaughtUp_eq_takeReachedWatch hzero]
      rfl

end Sys2Proof.Machine
end

section
/-! The acknowledge of a STROBE, and the releases of the calendar's head (Sections 4.2 to 4.5, 7.2 to 7.4). -/

namespace Sys2Proof.Machine

theorem saturateHalf_eq (x : Nat) : saturateHalf x = BitVec.ofNat 16 (min 65535 x) := by
  unfold saturateHalf
  split
  · rw [min_eq_left (by omega)]
  · rw [min_eq_right (by omega)]

theorem saturatingIncrement_eq {w : Nat} (x : BitVec w) {most : Nat} (hmost : most = 2 ^ w - 1) :
    saturatingIncrement x = if x.toNat = most then x else x + 1 := by
  unfold saturatingIncrement
  refine if_congr ?_ rfl rfl
  rw [← BitVec.toNat_inj, BitVec.toNat_allOnes, hmost]

/-- A continuation, after a change that leaves the slots and the groups alone. -/
theorem State.SameSlots.actsOn_continuation {s u : State} {n : SlotNo} (same : s.SameSlots u)
    (hlive : (s.slot n).isLive = true) (h : Held) (base : Tick) (behind : Nat) : s.ActsOn (u.continuation n h base behind) n :=
  .between same (State.actsOn_continuation h base behind (same.slot n ▸ hlive)) (.refl _)

/-- A completion, after a change that leaves the slots and the groups alone. -/
theorem State.SameSlots.actsOn_complete {s u : State} {n : SlotNo} (same : s.SameSlots u)
    (hlive : (s.slot n).isLive = true) (h : Held) (status : Status) : s.ActsOn (u.complete n h status) n :=
  .between same (State.actsOn_complete h status (same.slot n ▸ hlive)) (.refl _)

theorem State.Logged.now {s u : State} (h : s.Logged u) : u.now = s.now := h.sameSlots.now

/-! ### ACK mode (R121, R137, R138, R141) -/

theorem State.ackEdge_of_stray {s : State} {ch : ChanNo} (dir : EdgeDir) (h : (s.channel ch).ackClaim = none) :
    s.ackEdge ch dir =
      if (s.channel ch).policy = .all ∨ (s.channel ch).policy = .violations then
        s.appendCapture (channelCapture ch .stray (dir == .rising) true s.now none)
      else s := by
  simp only [State.ackEdge, h, edgeFlag_eq]
  exact s.logChannel_of_flagged ch rfl

theorem State.ackEdge_of_claim {s : State} {ch : ChanNo} (dir : EdgeDir) {n : SlotNo} {h : Held} {leadDue leadTime : Tick}
    {leadPast : Nat} (hclaim : (s.channel ch).ackClaim = some n) (hslot : s.slot n = .active h leadDue leadTime leadPast) :
    s.ackEdge ch dir =
      (((s.logChannel ch (channelCapture ch .ack (dir == .rising) false s.now none)).cut n h).continuation n
        (h.acknowledged s.now leadTime) leadDue (s.leadBehind h leadDue leadTime leadPast (s.entryPast n))).runEndedCommits := by
  simp only [State.ackEdge, hclaim, State.acknowledge, hslot, edgeFlag_eq]

/-- Settles O46: a stray only logs; an acknowledge logs, cuts the firing short and continues. -/
theorem ackEdgeAnswersTheStrobe : Obligations.AckEdgeAnswersTheStrobe := by
  intro s ch dir hrun hmode hedge c seen record
  have hexec : exec (.edge ch dir) s = .next (seen.ackEdge ch dir) := by
    rw [exec_edge_of_running ch dir hrun]
    exact congrArg _ (State.observeEdge_of_ack (s := seen) hmode ((EdgeSetting.selects_iff _ _).mpr hedge))
  refine ⟨fun hclaim => ?stray, fun n h leadDue leadTime leadPast l hclaim hslot hkind hline hchannel => ?answers⟩
  case stray => exact hexec.trans (congrArg _ (State.ackEdge_of_stray (s := seen) dir hclaim))
  case answers =>
    intro logged ended endPast behind u
    have hlogged : seen.logChannel ch (channelCapture ch .ack (dir == .rising) false seen.now none) = logged :=
      seen.logChannel_of_unflagged ch rfl
    obtain ⟨log, hlog, -⟩ : seen.Logged logged := hlogged ▸ seen.logged_logChannel ch _
    have hcut : logged.cut n h = ended := by
      rw [State.cut_eq, State.releaseClaims_of_strobe _ hline hkind hchannel]
      clear_value logged
      subst hlog
      rfl
    have hsame : s.SameSlots ended := by
      clear_value logged
      subst hlog
      exact ⟨rfl, rfl, rfl⟩
    refine ⟨?_, (hsame.actsOn_continuation (hslot ▸ rfl) _ leadDue behind).runEndedCommits⟩
    · rw [hexec, State.ackEdge_of_claim (s := seen) dir hclaim hslot]
      refine congrArg (fun t : State => Host.Outcome.next t.runEndedCommits) ?_
      rw [hlogged, hcut, Held.acknowledged, saturateHalf_eq]
      rfl

/-! ### END releases (R47, R75, R139) -/

theorem exec_endRelease_of_due {s : State} {e : Entry} {rest : List Entry} (hrun : s.tb.state = .running)
    (hcalendar : s.calendar = e :: rest) (hdue : e.distance s.now ≤ 0) (hphase : e.phase = .trailing) :
    exec .endRelease s = .next (s.releaseEnd e rest) := by
  refine congrArg Host.Outcome.next ?_
  simp only [hcalendar]
  exact if_pos ⟨by simp [State.running, hrun], hdue, hphase⟩

/-- Settles O51: the claims released, and then the continuation of a PULSE or the completion of a STROBE. -/
theorem trailAndTimeout : Obligations.TrailAndTimeout := by
  intro s e rest h leadDue leadTime leadPast l hrun hcalendar hdue hphase hslot hline behind ended releases
  have hexec := exec_endRelease_of_due hrun hcalendar hdue hphase
  have hlive : (s.slot e.slot).isLive = true := by rw [hslot]; rfl
  have hsame : s.SameSlots ended := ⟨rfl, rfl, rfl⟩
  refine ⟨fun hkind => ⟨?pulse, (hsame.actsOn_continuation hlive h leadDue behind).runEndedCommits⟩,
    fun c hkind hchannel => ⟨?strobe, State.ActsOn.runEndedCommits ?plain⟩⟩
  case pulse =>
    rw [hexec]
    simp only [State.releaseEnd, hslot]
    rw [if_neg (by rw [hkind]; decide), State.trail, State.releaseClaims_of_pulse _ hline (by rw [hkind]; decide)]
    rfl
  case strobe =>
    rw [hexec]
    simp only [State.releaseEnd, hslot]
    rw [if_pos hkind, State.timeout, State.releaseClaims_of_strobe _ hline hkind hchannel]
    rfl
  case plain =>
    exact State.SameSlots.actsOn_complete (s := s)
      (u := { ended with channels := s.channels.set c.val { s.channel c with ackClaim := none } c.isLt }) ⟨rfl, rfl, rfl⟩
      hlive h .timeout

/-! ### The checks of an attempt (R61) -/

section
variable (s : State) (h : Held) (lateness : Nat)

theorem State.lineClaimed_iff :
    s.lineClaimed h = true ↔ ∃ l : LineNo, h.action.line = some l ∧ (s.line l).claim ≠ none := by
  unfold State.lineClaimed
  cases h.action.line with
  | none => simp
  | some l => simp [Option.isSome_iff_ne_none]

theorem State.refusal_of_expired (hexpired : s.judgedExpired lateness = true) : s.refusal h lateness = some .expired :=
  if_pos hexpired

variable {lateness}

theorem State.refusal_of_collided (hexpired : ¬ s.judgedExpired lateness = true) (hcollided : s.lineClaimed h = true) :
    s.refusal h lateness = some .collided := (if_neg hexpired).trans (if_pos hcollided)

variable {h}

theorem State.refusal_of_noStrobe (hexpired : ¬ s.judgedExpired lateness = true) (hcollided : ¬ s.lineClaimed h = true)
    (hkind : h.action.kind ≠ .strobe) : s.refusal h lateness = none :=
  (if_neg hexpired).trans ((if_neg hcollided).trans (if_neg hkind))

theorem State.refusal_of_strobe (hexpired : ¬ s.judgedExpired lateness = true) (hcollided : ¬ s.lineClaimed h = true)
    (hkind : h.action.kind = .strobe) :
    s.refusal h lateness = match h.action.channel with
      | none => some .ackOff
      | some c =>
        if (s.channel c).mode ≠ .ack then some .ackOff else if (s.channel c).ackClaim ≠ none then some .ackBusy else none := by
  unfold State.refusal State.channelOf
  rw [if_neg hexpired, if_neg hcollided, if_pos hkind]
  cases h.action.channel with
  | none => rfl
  | some c => exact if_congr Iff.rfl rfl (if_congr Option.isSome_iff_ne_none rfl rfl)

end

/-! ### LEAD releases (R46, R60) -/

theorem Held.attempted_eq (h : Held) :
    h.attempted = { h with remaining := if h.action.count.toNat = 0 then h.remaining else h.remaining - 1 } := by
  unfold Held.attempted
  by_cases hzero : h.action.count = 0
  · rw [if_pos hzero, if_pos (by rw [hzero]; rfl)]
  · rw [if_neg hzero, if_neg (hzero ∘ (half_eq_zero_iff _).mpr)]

theorem State.actsOn_refuseAttempt {s : State} (e : Entry) (h : Held) (reason : Status)
    (hlive : (s.slot e.slot).isLive = true) : s.ActsOn (s.refuseAttempt e h reason) e.slot := by
  unfold State.refuseAttempt
  split
  · exact State.actsOn_complete h reason hlive
  · exact (s.logged_logMiss e.slot h reason).sameSlots.actsOn_continuation hlive _ _ _

theorem State.actsOn_beginFiring {s : State} (e : Entry) (h : Held) (hlive : (s.slot e.slot).isLive = true) :
    s.ActsOn (s.beginFiring e h) e.slot where
  now := by rw [State.beginFiring_eq]; rfl
  groups := by rw [State.beginFiring_eq]
  others m hm := by rw [State.slot_beginFiring, if_neg hm]
  live := hlive
  unopened := by rw [State.slot_beginFiring, if_pos rfl]; rfl

theorem State.sameSlots_onLine (s : State) (l : Option LineNo) (f : Line → Line) : s.SameSlots (s.onLine l f) := by
  cases l <;> exact ⟨rfl, rfl, rfl⟩

/-- A firing that goes on at once: the line driven, the record, and the continuation. -/
theorem State.SameSlots.actsOn_fire {s u : State} (same : s.SameSlots u) (e : Entry) (h : Held) (lateness : Nat)
    (hlive : (s.slot e.slot).isLive = true) : s.ActsOn ((u.logFired e.slot h lateness).continueLead e h) e.slot :=
  (same.trans (u.logged_logFired e.slot h lateness).sameSlots).actsOn_continuation hlive _ _ _

theorem State.actsOn_performAttempt {s : State} (e : Entry) (h : Held) (hlive : (s.slot e.slot).isLive = true) :
    s.ActsOn (s.performAttempt e h) e.slot := by
  have hfiring : ∀ (k : Held) (lateness : Nat), s.ActsOn ((s.beginFiring e k).logFired e.slot k lateness) e.slot :=
    fun k lateness => .between (.refl s) (State.actsOn_beginFiring e k hlive) (State.logged_logFired _ _ _ _).sameSlots
  unfold State.performAttempt
  cases h.action.kind with
  | set => exact (s.sameSlots_onLine _ _).actsOn_fire e _ _ hlive
  | clear => exact (s.sameSlots_onLine _ _).actsOn_fire e _ _ hlive
  | toggle => exact (s.sameSlots_onLine _ _).actsOn_fire e _ _ hlive
  | note => exact (State.SameSlots.refl s).actsOn_fire e _ _ hlive
  | pulse => exact hfiring _ _
  | strobe => exact hfiring _ _

theorem State.actsOn_attempt {s : State} (e : Entry) (h : Held) (hlive : (s.slot e.slot).isLive = true) :
    s.ActsOn (s.attempt e h) e.slot := by
  unfold State.attempt
  split
  · exact State.actsOn_refuseAttempt e _ _ hlive
  · exact State.actsOn_performAttempt e _ hlive

section
variable {s : State} {e : Entry} {rest : List Entry} {h : Held} {due : Tick}

/-- The LEAD release acts on its slot, and then the commits handed over at its end execute. -/
theorem exec_leadRelease_of_due (hrun : s.tb.state = .running) (hcalendar : s.calendar = e :: rest)
    (hdue : e.distance s.now ≤ 0) (hphase : e.phase = .lead) (hslot : s.slot e.slot = .scheduled h due) :
    exec .leadRelease s = .next (((s.setCalendar rest).attempt e h).runFiredCommits e.slot) ∧
      s.ActsOn ((s.setCalendar rest).attempt e h) e.slot := by
  refine ⟨congrArg Host.Outcome.next ?_, ?_⟩
  · simp only [hcalendar]
    refine (if_pos ⟨by simp [State.running, hrun], hdue, hphase⟩).trans ?_
    simp only [State.releaseLead, hslot]
  · exact .between (t := s.setCalendar rest) ⟨rfl, rfl, rfl⟩ (State.actsOn_attempt e h (by rw [State.setCalendar_slot, hslot]; rfl))
      (.refl _)

/-- What the release comes to once its attempt is known. -/
theorem exec_leadRelease_of_attempt (hrun : s.tb.state = .running) (hcalendar : s.calendar = e :: rest)
    (hdue : e.distance s.now ≤ 0) (hphase : e.phase = .lead) (hslot : s.slot e.slot = .scheduled h due) {u : State}
    (hu : (s.setCalendar rest).attempt e h = u) :
    exec .leadRelease s = .next (u.runFiredCommits e.slot) ∧ (s.NoCommitWaitsFor e.slot → u.runFiredCommits e.slot = u) := by
  obtain ⟨hexec, hacts⟩ := exec_leadRelease_of_due hrun hcalendar hdue hphase hslot
  rw [hu] at hexec hacts
  exact ⟨hexec, hacts.runFiredCommits⟩

theorem State.attempt_of_refused {reason : Status} (h' : s.refusal h (e.lateness s.now) = some reason) :
    s.attempt e h = s.refuseAttempt e h.attempted reason := by
  simp only [State.attempt, h']

theorem State.attempt_of_performed (h' : s.refusal h (e.lateness s.now) = none) :
    s.attempt e h = s.performAttempt e h.attempted := by
  simp only [State.attempt, h']

end

/-- Settles O48: the checks in their order, and what a refusal does by the slot's count. -/
theorem refusedAttempt : Obligations.RefusedAttempt := by
  refine ⟨fun s h lateness => ?checks, fun s e rest h due reason hrun hcalendar hdue hphase hslot hrefused => ?release⟩
  case checks =>
    intro expired collided ackOff ackBusy
    have hexpired : s.judgedExpired lateness = true ↔ expired := s.judgedExpired_iff lateness
    have hcollided : s.lineClaimed h = true ↔ collided := s.lineClaimed_iff h
    refine ⟨fun h1 => s.refusal_of_expired h _ (hexpired.mpr h1),
      fun h1 h2 => s.refusal_of_collided h (h1 ∘ hexpired.mp) (hcollided.mpr h2),
      fun h1 h2 h3 => ?ackOff, fun h1 h2 h3 h4 => ?ackBusy, fun h1 h2 h3 h4 => ?performed⟩
    case ackOff =>
      rw [s.refusal_of_strobe (h1 ∘ hexpired.mp) (h2 ∘ hcollided.mp) h3.1]
      cases hchannel : h.action.channel with
      | none => rfl
      | some c => exact if_pos (h3.2 c hchannel)
    case ackBusy =>
      obtain ⟨hkind, c, hchannel, hmode, hbusy⟩ := h4
      rw [s.refusal_of_strobe (h1 ∘ hexpired.mp) (h2 ∘ hcollided.mp) hkind]
      simp only [hchannel]
      rw [if_neg (not_not_intro hmode), if_pos hbusy]
    case performed =>
      by_cases hkind : h.action.kind = .strobe
      · rw [s.refusal_of_strobe (h1 ∘ hexpired.mp) (h2 ∘ hcollided.mp) hkind]
        cases hchannel : h.action.channel with
        | none => exact absurd ⟨hkind, fun c hc => nomatch hchannel.symm.trans hc⟩ h3
        | some c =>
          have hmode : (s.channel c).mode = .ack := by
            by_contra hmode
            refine h3 ⟨hkind, fun k hk => ?_⟩
            cases hchannel.symm.trans hk
            exact hmode
          simp only
          rw [if_neg (not_not_intro hmode), if_neg fun hbusy => h4 ⟨hkind, c, hchannel, hmode, hbusy⟩]
      · exact s.refusal_of_noStrobe (h1 ∘ hexpired.mp) (h2 ∘ hcollided.mp) hkind
  case release =>
    intro releases behind left removed
    have hattempt : removed.attempt e h = removed.refuseAttempt e { h with remaining := left } reason :=
      (State.attempt_of_refused (s := removed) hrefused).trans (by rw [h.attempted_eq])
    refine ⟨fun hcount => ?single, fun hcount => ?miss⟩
    case single =>
      refine exec_leadRelease_of_attempt hrun hcalendar hdue hphase hslot (hattempt.trans (if_pos ?_))
      exact BitVec.eq_of_toNat_eq hcount
    case miss =>
      intro logged
      have hnow : logged.now = s.now := (removed.logged_logMiss e.slot { h with remaining := left } reason).now
      refine exec_leadRelease_of_attempt hrun hcalendar hdue hphase hslot
        (hattempt.trans ((if_neg fun hone => hcount ?_).trans ?_))
      · exact congrArg BitVec.toNat hone
      · rw [Held.withMiss, saturatingIncrement_eq _ (most := 255) rfl]
        change logged.continuation e.slot _ e.due (e.behind logged.now) = _
        rw [hnow]
        rfl

theorem Held.withFiring_eq (h : Held) (lateness : Nat) :
    h.withFiring lateness =
      { h with
        fired := if h.fired.toNat = 65535 then h.fired else h.fired + 1
        worstLateness :=
          if h.worstLateness.toNat < (BitVec.ofNat 16 (min 65535 lateness)).toNat then BitVec.ofNat 16 (min 65535 lateness)
          else h.worstLateness } := by
  unfold Held.withFiring
  rw [saturatingIncrement_eq _ (most := 65535) rfl, saturateHalf_eq]

/-- The FIRED record of a slot with the LOG option carries the level that its line then has (R83). -/
theorem State.logFired_of_line {s : State} {n : SlotNo} {h : Held} {l : LineNo} (hline : h.action.line = some l) (lateness : Nat) :
    s.logFired n h lateness =
      if h.action.logOption then
        s.appendCapture
          { source := .action n, kind := .fired, edge := (s.line l).isActive, violation := false, overrun := false,
            tag := h.action.tag, timestamp := s.now, interval := none, extra := BitVec.ofNat 16 (min 65535 lateness) }
      else s := by
  unfold State.logFired
  rw [saturateHalf_eq, hline]

theorem State.logFired_of_noLine {s : State} {n : SlotNo} {h : Held} (hline : h.action.line = none) (lateness : Nat) :
    s.logFired n h lateness =
      if h.action.logOption then
        s.appendCapture
          { source := .action n, kind := .fired, edge := false, violation := false, overrun := false,
            tag := h.action.tag, timestamp := s.now, interval := none, extra := BitVec.ofNat 16 (min 65535 lateness) }
      else s := by
  unfold State.logFired
  rw [saturateHalf_eq, hline]

/-- The line of a performed SET, CLEAR or TOGGLE driven to `level`, the record, and the continuation (R66, R67). -/
theorem State.fire_onLine {s : State} {e : Entry} {h : Held} {l : LineNo} (f : Line → Line) {level : Bool}
    (hline : h.action.line = some l) (hlevel : f (s.line l) = { s.line l with isActive := level }) (lateness : Nat) :
    ((s.onLine h.action.line f).logFired e.slot h lateness).continueLead e h =
      (if h.action.logOption then
        (s.setLine l { s.line l with isActive := level }).appendCapture
          { source := .action e.slot, kind := .fired, edge := level, violation := false, overrun := false,
            tag := h.action.tag, timestamp := s.now, interval := none, extra := BitVec.ofNat 16 (min 65535 lateness) }
      else s.setLine l { s.line l with isActive := level }).continuation e.slot h e.due (e.behind s.now) := by
  have hdriven : s.onLine h.action.line f = s.setLine l { s.line l with isActive := level } := by
    rw [hline, State.onLine_some, hlevel]
  have hnow := (State.logged_logFired (s.setLine l { s.line l with isActive := level }) e.slot h lateness).now
  rw [hdriven, State.continueLead, hnow, State.logFired_of_line hline, State.line_setLine_self]
  rfl

/-- Settles O49: by the kind, each with the line it leaves. -/
theorem performedAttempt : Obligations.PerformedAttempt := by
  intro s e rest h due hrun hcalendar hdue hphase hslot hnone releases behind late counted logged driven
  have hcounted : h.attempted.withFiring (e.lateness s.now) = counted := by
    rw [Held.withFiring_eq, h.attempted_eq]
  have haction : h.attempted.action = h.action := h.attempted_action
  have hreleases : ∀ {u : State}, (s.setCalendar rest).performAttempt e h.attempted = u → releases u := fun hu =>
    exec_leadRelease_of_attempt hrun hcalendar hdue hphase hslot
      ((State.attempt_of_performed (s := s.setCalendar rest) hnone).trans hu)
  refine ⟨fun l hline hkind => hreleases ?set, fun l hline hkind => hreleases ?clear, fun l hline hkind => hreleases ?toggle,
    fun hline hkind => hreleases ?note⟩
  case set =>
    simp only [State.performAttempt, haction, hkind, State.setCalendar_now, hcounted]
    exact State.fire_onLine (h := counted) _ hline rfl _
  case clear =>
    simp only [State.performAttempt, haction, hkind, State.setCalendar_now, hcounted]
    exact State.fire_onLine (h := counted) _ hline rfl _
  case toggle =>
    simp only [State.performAttempt, haction, hkind, State.setCalendar_now, hcounted]
    exact State.fire_onLine (h := counted) _ hline rfl _
  case note =>
    have hnow := ((s.setCalendar rest).logged_logFired e.slot counted (e.lateness s.now)).now
    simp only [State.performAttempt, haction, hkind, State.setCalendar_now, hcounted, State.continueLead, hnow]
    rw [State.logFired_of_noLine (h := counted) hline]
    rfl

/-- The lead of a PULSE whose line and width are present (R68). -/
theorem State.beginFiring_of_pulse {s : State} {e : Entry} {h : Held} {l : LineNo} {width : Half}
    (hkind : h.action.kind = .pulse) (hline : h.action.line = some l) (hwidth : h.action.width = some width) :
    s.beginFiring e h =
      { s with
        slots := s.slots.set e.slot.val (.active h e.due s.now e.pastFloor) e.slot.isLt
        calendar := insertEntry s.now ⟨e.slot, .trailing, s.now + BitVec.ofNat 32 width.toNat, 0⟩ s.calendar
        lines := s.lines.set l.val { s.line l with isActive := true, claim := some e.slot } l.isLt } := by
  unfold State.beginFiring
  rw [hline, hwidth, Option.getD_some, zeroExtend_eq_ofNat]
  simp only []
  rw [if_neg (by rw [hkind]; decide)]
  rfl

/-- The lead of a STROBE whose line, width and channel are present (R68, R69). -/
theorem State.beginFiring_of_strobe {s : State} {e : Entry} {h : Held} {l : LineNo} {width : Half} {c : ChanNo}
    (hkind : h.action.kind = .strobe) (hline : h.action.line = some l) (hwidth : h.action.width = some width)
    (hchannel : h.action.channel = some c) :
    s.beginFiring e h =
      { s with
        slots := s.slots.set e.slot.val (.active h e.due s.now e.pastFloor) e.slot.isLt
        calendar := insertEntry s.now ⟨e.slot, .trailing, s.now + BitVec.ofNat 32 width.toNat, 0⟩ s.calendar
        lines := s.lines.set l.val { s.line l with isActive := true, claim := some e.slot } l.isLt
        channels := s.channels.set c.val { s.channel c with ackClaim := some e.slot } c.isLt } := by
  unfold State.beginFiring
  rw [hline, hwidth, Option.getD_some, zeroExtend_eq_ofNat, hchannel]
  simp only []
  rw [if_pos hkind]
  rfl

/-- Settles O50: the firing begun, and its record with the line ACTIVE. -/
theorem firingBegins : Obligations.FiringBegins := by
  intro s e rest h due l width hrun hcalendar hdue hphase hslot hnone hline hwidth releases late counted begun logged
  have hcounted : h.attempted.withFiring (e.lateness s.now) = counted := by
    rw [Held.withFiring_eq, h.attempted_eq]
  have haction : h.attempted.action = h.action := h.attempted_action
  have hactive : ((s.setCalendar rest).beginFiring e counted).line l
      = { s.line l with isActive := true, claim := some e.slot } :=
    (State.line_beginFiring _ e counted l).trans (if_pos hline)
  have hlogged : ∀ {u : State}, (s.setCalendar rest).beginFiring e counted = u →
      (s.setCalendar rest).performAttempt e h.attempted
        = ((s.setCalendar rest).beginFiring e counted).logFired e.slot counted (e.lateness s.now) → releases (logged u) := by
    intro u hu hperform
    refine exec_leadRelease_of_attempt hrun hcalendar hdue hphase hslot
      ((State.attempt_of_performed (s := s.setCalendar rest) hnone).trans (hperform.trans ?_))
    have hnow : u.now = s.now := by rw [← hu, State.beginFiring_eq]; rfl
    rw [State.logFired_of_line (h := counted) hline, hactive, hu, hnow]
  refine ⟨fun hkind => hlogged (State.beginFiring_of_pulse (h := counted) hkind hline hwidth) ?pulse,
    fun c hkind hchannel => hlogged (State.beginFiring_of_strobe (h := counted) hkind hline hwidth hchannel) ?strobe⟩
  all_goals simp only [State.performAttempt, haction, hkind, State.setCalendar_now, hcounted]

end Sys2Proof.Machine
end

section
/-! What the due commits of one event have done to a group that owes its commit (Sections 5.4 and 5.5). -/

namespace Sys2Proof.Machine

/-! ### The commit of a group on one slot -/

/-- The group whose commit changes the slot: a COMPLETE slot is beyond every commit. -/
def Slot.commitGroup? : Slot → Option GroupNo
  | .opened h => h.action.group
  | .scheduled h _ => h.action.group
  | .parked h => h.action.group
  | .active h _ _ _ => h.action.group
  | _ => none

/-- The slot after the commit of group `g` (R95, R97). -/
def Slot.committed (now : Tick) (g : GroupNo) (replace : Bool) (x : Slot) : Slot :=
  if x.isOpenIn g then x.placed now else x.retiredIf now g replace

theorem State.OpenListsHold.slot_commitGroup_eq_committed {s : State} (hlists : s.OpenListsHold) (g : GroupNo) (replace : Bool)
    (cause : CommitCause) (n : SlotNo) :
    (s.commitGroup g replace cause).slot n = (s.slot n).committed s.now g replace :=
  hlists.slot_commitGroup g replace cause n

theorem Slot.retired_of_ne {x : Slot} {g : GroupNo} (now : Tick) (h : x.commitGroup? ≠ some g) : x.retired now g = x := by
  cases x with
  | scheduled k due => exact if_neg h
  | parked k => exact if_neg h
  | active k a b p => exact if_neg h
  | _ => rfl

/-- The commit of another group leaves the slot alone. -/
theorem Slot.committed_of_ne {x : Slot} {g : GroupNo} (now : Tick) (replace : Bool) (h : x.commitGroup? ≠ some g) :
    x.committed now g replace = x := by
  have hclosed : ¬ x.isOpenIn g = true := by
    cases x with
    | opened k => simpa [Slot.isOpenIn, Slot.commitGroup?] using h
    | _ => exact Bool.false_ne_true
  rw [Slot.committed, if_neg hclosed, Slot.retiredIf, Slot.retired_of_ne now h, ite_self]

theorem Slot.commitGroup?_committed {x : Slot} {now : Tick} {g k : GroupNo} {replace : Bool}
    (h : (x.committed now g replace).commitGroup? = some k) : x.commitGroup? = some k := by
  by_cases hx : x.commitGroup? = some g
  · have hretired : (x.retired now g).commitGroup? = x.commitGroup? ∨ (x.retired now g).commitGroup? = none := by
      cases x with
      | scheduled j due => exact .inr (by simp only [Slot.retired, if_pos (show j.action.group = some g from hx)]; rfl)
      | parked j => exact .inr (by simp only [Slot.retired, if_pos (show j.action.group = some g from hx)]; rfl)
      | active j a b p => exact .inl (by simp only [Slot.retired, if_pos (show j.action.group = some g from hx)]; rfl)
      | _ => exact .inl rfl
    have hplaced : (x.placed now).commitGroup? = x.commitGroup? := by
      cases x with
      | opened j => simp only [Slot.placed, Held.placedAt]; cases j.action.mode <;> rfl
      | _ => rfl
    unfold Slot.committed Slot.retiredIf at h
    split at h
    · exact hplaced ▸ h
    split at h
    · rcases hretired with hsame | hnone
      · exact hsame ▸ h
      · rw [hnone] at h
        cases h
    · exact h
  · rwa [Slot.committed_of_ne now replace hx] at h

/-- A COMPLETE slot stays as it is, whatever the open lists hold. -/
theorem State.slot_commitGroup_of_complete {s : State} {n : SlotNo} (h : (s.slot n).isComplete = true) (g : GroupNo)
    (replace : Bool) (cause : CommitCause) : (s.commitGroup g replace cause).slot n = s.slot n := by
  rw [State.slot_commitGroup]
  cases hslot : s.slot n with
  | complete k status time => cases replace <;> exact ite_self _
  | _ => rw [hslot] at h; exact absurd h Bool.false_ne_true

theorem State.Changes.keepsOpenLists {s t : State} (h : s.Changes t) (hs : s.OpenListsHold) : t.OpenListsHold := by
  induction h with
  | refl => exact hs
  | tail _ change ih => exact change.keepsOpenLists ih

theorem State.OpenListsHold.commitGroup {s : State} (hs : s.OpenListsHold) (g : GroupNo) (replace : Bool)
    (cause : CommitCause) : (s.commitGroup g replace cause).OpenListsHold :=
  State.Changes.keepsOpenLists (s.changes_commitGroup g replace cause) hs

theorem State.group_commitGroup_of_ne (s : State) {g k : GroupNo} (h : g ≠ k) (replace : Bool) (cause : CommitCause) :
    (s.commitGroup k replace cause).group g = s.group g := by
  rw [State.commitGroup_group, if_neg h]

/-! ### The commits of one event on one group -/

/-- The record that a commit with a cause other than NOW leaves of its group (R98). -/
def CommitCause.record (cause : CommitCause) : Group := { state := .empty, openList := [], lastCause := cause, done := true }

theorem State.group_commitGroup_self (s : State) (g : GroupNo) (replace : Bool) {cause : CommitCause} (h : cause ≠ .now) :
    (s.commitGroup g replace cause).group g = cause.record := by
  rw [State.commitGroup_group, if_pos rfl]
  cases cause with
  | now => exact absurd rfl h
  | _ => simp [CommitCause.record]

namespace State.Runs

variable {fired : List GroupNo} {s t : State} {g : GroupNo}

theorem slot_of_complete (h : State.Runs fired s t) {n : SlotNo} (hn : (s.slot n).isComplete = true) : t.slot n = s.slot n := by
  induction h with
  | done => rfl
  | commit _ _ ih =>
    have hkept := State.slot_commitGroup_of_complete hn
    rw [ih (by rw [hkept]; exact hn), hkept]

/-- No commit moves a slot to another group. -/
theorem commitGroup? (h : State.Runs fired s t) (hlists : s.OpenListsHold) {n : SlotNo}
    (hn : (t.slot n).commitGroup? = some g) : (s.slot n).commitGroup? = some g := by
  induction h with
  | done => exact hn
  | commit _ _ ih =>
    have hkept := ih (hlists.commitGroup _ _ _) hn
    rw [hlists.slot_commitGroup_eq_committed] at hkept
    exact Slot.commitGroup?_committed hkept

/-- A group that is not PENDING executes no commit, and its slots stay as they are. -/
theorem of_not_pending (h : State.Runs fired s t) (hg : ∀ anchor replace, (s.group g).state ≠ .pending anchor replace) :
    t.group g = s.group g ∧ (s.OpenListsHold → ∀ n, (∀ k ≠ g, (s.slot n).commitGroup? ≠ some k) → t.slot n = s.slot n) := by
  induction h with
  | done => exact ⟨rfl, fun _ _ _ => rfl⟩
  | @commit s t k replace cause hdue _ ih =>
    obtain ⟨anchor, hstate, -⟩ := State.pending_of_dueCommit hdue
    have hne : g ≠ k := fun heq => hg anchor replace (heq ▸ hstate)
    have hgroup := s.group_commitGroup_of_ne hne replace cause
    obtain ⟨hrecord, hslots⟩ := ih (by rw [hgroup]; exact hg)
    refine ⟨hrecord.trans hgroup, fun hlists n hn => ?_⟩
    have hkept : (s.commitGroup k replace cause).slot n = s.slot n := by
      rw [hlists.slot_commitGroup_eq_committed, Slot.committed_of_ne _ _ (hn k hne.symm)]
    rw [hslots (hlists.commitGroup _ _ _) n (by rw [hkept]; exact hn), hkept]

/-- A group that owes its commit, because it was handed over or because its anchor is COMPLETE, has executed it once, and no
other commit has changed the group or its slots. -/
theorem of_owed (h : State.Runs fired s t) {anchor : SlotNo} {replace : Bool} {cause : CommitCause}
    (hstate : (s.group g).state = .pending anchor replace)
    (howes : g ∈ fired ∧ cause = .anchorFired ∨ g ∉ fired ∧ (s.slot anchor).isComplete = true ∧ cause = .anchorEnded) :
    t.group g = cause.record ∧
      (s.OpenListsHold → ∀ n, (s.slot n).commitGroup? = some g → t.slot n = (s.slot n).committed s.now g replace) := by
  induction h with
  | @done s hnone =>
    have hdue := hnone g
    rw [State.dueCommit_of_pending hstate] at hdue
    obtain ⟨hfired, -⟩ | ⟨hfired, hcomplete, -⟩ := howes
    · rw [if_pos hfired] at hdue
      cases hdue
    · have hdead : ¬ (s.slot anchor).isLive = true := by
        cases hslot : s.slot anchor with
        | complete => exact Bool.false_ne_true
        | _ => rw [hslot] at hcomplete; exact absurd hcomplete Bool.false_ne_true
      rw [if_neg hfired, if_neg hdead] at hdue
      cases hdue
  | @commit s t k r c hdue hrest ih =>
    by_cases hk : g = k
    · subst hk
      obtain ⟨anchor', hstate', hcause⟩ := State.pending_of_dueCommit hdue
      cases hstate.symm.trans hstate'
      have hc : c = cause := by
        obtain ⟨hfired, rfl⟩ | ⟨hfired, -, rfl⟩ := howes <;> obtain ⟨hfired', rfl⟩ | ⟨hfired', -, rfl⟩ := hcause
        · rfl
        · exact absurd hfired hfired'
        · exact absurd hfired' hfired
        · rfl
      subst hc
      have hself := s.group_commitGroup_self g replace (cause := c) (by obtain ⟨-, rfl⟩ | ⟨-, -, rfl⟩ := howes <;> decide)
      obtain ⟨hrecord, hslots⟩ := hrest.of_not_pending (g := g) (by rw [hself]; exact fun _ _ => nofun)
      refine ⟨hrecord.trans hself, fun hlists n hn => ?_⟩
      have hcommitted := hlists.slot_commitGroup_eq_committed g replace c n
      rw [hslots (hlists.commitGroup _ _ _) n fun j hj hgroup => hj ?_, hcommitted]
      rw [hcommitted] at hgroup
      exact Option.some.inj ((Slot.commitGroup?_committed hgroup).symm.trans hn)
    · have hgroup := s.group_commitGroup_of_ne hk r c
      obtain ⟨hrecord, hslots⟩ := ih (by rw [hgroup]; exact hstate)
        (howes.imp_right fun ⟨hfired, hcomplete, hcause⟩ =>
          ⟨hfired, by rw [State.slot_commitGroup_of_complete hcomplete]; exact hcomplete, hcause⟩)
      refine ⟨hrecord, fun hlists n hn => ?_⟩
      have hkept : (s.commitGroup k r c).slot n = s.slot n := by
        rw [hlists.slot_commitGroup_eq_committed, Slot.committed_of_ne _ _ (hn ▸ fun heq => hk (Option.some.inj heq))]
      rw [hslots (hlists.commitGroup _ _ _) n (by rw [hkept]; exact hn), hkept, State.commitGroup_now]

end State.Runs

/-! ### What the event and its commits have done -/

theorem Slot.commitGroup?_of_inPlacedGeneration {x : Slot} {g : GroupNo} (h : x.inPlacedGeneration g = true) :
    x.commitGroup? = some g := by
  cases x with
  | scheduled k due => simpa [Slot.inPlacedGeneration, Slot.isLive, Slot.held?, Slot.commitGroup?] using h
  | parked k => simpa [Slot.inPlacedGeneration, Slot.isLive, Slot.held?, Slot.commitGroup?] using h
  | active k a b p => simpa [Slot.inPlacedGeneration, Slot.isLive, Slot.held?, Slot.commitGroup?] using h
  | _ => exact absurd h Bool.false_ne_true

/-- A slot of the group that a commit with REPLACE leaves in the placed generation is ACTIVE and marked (R95). -/
theorem Slot.marked_of_committed {x : Slot} {now : Tick} {g : GroupNo} (hgroup : x.commitGroup? = some g)
    (hclosed : x.opened? = none) (hin : (x.committed now g true).inPlacedGeneration g = true) :
    ∃ h leadDue leadTime leadPast,
      x.committed now g true = .active h leadDue leadTime leadPast ∧ h.supersedePending = true := by
  cases x with
  | free | complete => cases hgroup
  | opened k => cases hclosed
  | scheduled k due =>
    have hretired : (Slot.scheduled k due).committed now g true = .complete k .superseded now := if_pos hgroup
    rw [hretired] at hin
    cases hin
  | parked k =>
    have hretired : (Slot.parked k).committed now g true = .complete k .superseded now := if_pos hgroup
    rw [hretired] at hin
    cases hin
  | active k a b p => exact ⟨{ k with supersedePending := true }, a, b, p, if_pos hgroup, rfl⟩

/-- An event from `s` to `u` that keeps every slot of group `g` but its own, and then the commits up to `t`. -/
theorem State.Runs.commitDone {fired : List GroupNo} {s u t : State} (h : State.Runs fired u t) {g : GroupNo} {anchor : SlotNo}
    {replace : Bool} {cause : CommitCause} {own : Option SlotNo} (hstate : (u.group g).state = .pending anchor replace)
    (howes : g ∈ fired ∧ cause = .anchorFired ∨ g ∉ fired ∧ (u.slot anchor).isComplete = true ∧ cause = .anchorEnded)
    (hnow : u.now = s.now) (hlists : u.OpenListsHold)
    (hkept : ∀ m, own ≠ some m → (s.slot m).commitGroup? = some g → u.slot m = s.slot m)
    (hown : ∀ n, own = some n → (s.slot n).opened? = none ∧ (u.slot n).opened? = none) :
    State.CommitDone s t g replace cause own := by
  obtain ⟨hrecord, hslots⟩ := h.of_owed hstate howes
  have hafter : ∀ m, own ≠ some m → (s.slot m).commitGroup? = some g → t.slot m = (s.slot m).committed s.now g replace := by
    intro m hm hgroup
    have hsame := hkept m hm hgroup
    rw [hslots hlists m (by rw [hsame]; exact hgroup), hsame, hnow]
  refine ⟨hrecord, fun n k hslot hk => ?placed, fun hr n k due hn hslot hk => ?scheduled, fun hr n k hn hslot hk => ?parked,
    fun hr n k a b p hn hslot hk => ?marked, fun hr n hn hin => ?own, fun hr n hn hin => ?kept⟩
  case placed =>
    have hn : own ≠ some n := by
      intro heq
      have hclosed := (hown n heq).1
      rw [hslot] at hclosed
      cases hclosed
    rw [hafter n hn (by rw [hslot]; exact hk), hslot]
    exact if_pos (by simp [Slot.isOpenIn, hk])
  case scheduled =>
    rw [hafter n hn (by rw [hslot]; exact hk), hslot, hr]
    exact if_pos hk
  case parked =>
    rw [hafter n hn (by rw [hslot]; exact hk), hslot, hr]
    exact if_pos hk
  case marked =>
    rw [hafter n hn (by rw [hslot]; exact hk), hslot, hr]
    exact if_pos hk
  case own =>
    have hgroup := h.commitGroup? hlists (Slot.commitGroup?_of_inPlacedGeneration hin)
    have hclosed := (hown n hn).2
    rw [hslots hlists n hgroup, hr] at hin ⊢
    exact Slot.marked_of_committed hgroup hclosed hin
  case kept =>
    rw [hafter n hn (Slot.commitGroup?_of_inPlacedGeneration hin), hr]
    cases hslot : s.slot n with
    | opened k => rw [hslot] at hin; exact absurd hin Bool.false_ne_true
    | _ => rfl

theorem State.CommitDone.of_eq {s t v : State} {g : GroupNo} {replace : Bool} {cause : CommitCause} {own : Option SlotNo}
    (h : State.CommitDone s t g replace cause own) (hslots : v.slots = t.slots) (hgroups : v.groups = t.groups) :
    State.CommitDone s v g replace cause own := by
  have hslot : ∀ n, v.slot n = t.slot n := fun n => by simp only [State.slot, hslots]
  obtain ⟨record, placed, scheduled, parked, marked, ownRetired, kept⟩ := h
  rw [← State.group_of_groups_eq hgroups] at record
  simp only [← hslot] at placed scheduled parked marked ownRetired kept
  exact ⟨record, placed, scheduled, parked, marked, ownRetired, kept⟩

theorem Slot.opened?_of_live {x : Slot} (h : x.isLive = true) : x.opened? = none := by
  cases x with
  | opened => exact absurd h Bool.false_ne_true
  | _ => rfl

theorem State.ActsOn.openListsHold {s u : State} {n : SlotNo} (h : s.ActsOn u n) (hs : s.OpenListsHold) : u.OpenListsHold := by
  refine hs.of_groups_eq (fun m => ?_) h.groups
  by_cases hm : m = n
  · rw [hm, h.unopened, Slot.opened?_of_live h.live]
  · rw [h.others m hm]

/-- An event that completes its slot, and the commits that this made due. -/
theorem State.ActsOn.commitDone_ended {s u : State} {n : SlotNo} (h : s.ActsOn u n) (hcomplete : (u.slot n).isComplete = true)
    {g : GroupNo} {replace : Bool} (hstate : (s.group g).state = .pending n replace) :
    (u.runEndedCommits.slot n).isComplete = true ∧ u.runEndedCommits.group g = CommitCause.anchorEnded.record ∧
      (s.OpenListsHold → State.CommitDone s u.runEndedCommits g replace .anchorEnded (some n)) := by
  have hruns := u.runs_runEndedCommits
  rw [← State.group_of_groups_eq h.groups] at hstate
  have howes : g ∈ ([] : List GroupNo) ∧ CommitCause.anchorEnded = .anchorFired ∨ g ∉ ([] : List GroupNo) ∧
      (u.slot n).isComplete = true ∧ CommitCause.anchorEnded = .anchorEnded := .inr ⟨List.not_mem_nil, hcomplete, rfl⟩
  refine ⟨by rw [hruns.slot_of_complete hcomplete]; exact hcomplete, (hruns.of_owed hstate howes).1, fun hlists => ?_⟩
  exact hruns.commitDone hstate howes h.now (h.openListsHold hlists) (fun m hm _ => h.others m (fun heq => hm (heq ▸ rfl)))
    fun m hm => Option.some.inj hm ▸ ⟨Slot.opened?_of_live h.live, h.unopened⟩

/-! ### One commit at a time (R101) -/

theorem State.mem_pendingOn_iff {s : State} {n : SlotNo} {g : GroupNo} :
    g ∈ s.pendingOn n ↔ ∃ replace, (s.group g).state = .pending n replace := by
  unfold State.pendingOn
  rw [List.mem_filter, and_iff_right (show g ∈ groupNumbers from List.mem_finRange g)]
  cases (s.group g).state with
  | pending anchor replace => simp
  | _ => simp

theorem State.dueCommit_pendingOn {s : State} (n : SlotNo) {g : GroupNo} {anchor : SlotNo} {replace : Bool}
    (h : (s.group g).state = .pending anchor replace) :
    s.dueCommit (s.pendingOn n) g =
      if anchor = n then some (replace, .anchorFired)
      else if (s.slot anchor).isLive = true then none else some (replace, .anchorEnded) := by
  rw [State.dueCommit_of_pending h]
  refine if_congr (State.mem_pendingOn_iff.trans ⟨fun ⟨r, hr⟩ => ?_, fun hn => ⟨replace, hn ▸ h⟩⟩) rfl rfl
  cases h.symm.trans hr
  rfl

/-- A group that owes no commit, told from its state. -/
theorem State.dueCommit_pendingOn_eq_none {s : State} {n : SlotNo} {k : GroupNo}
    (h : ∀ a b, ¬ ((s.group k).state = .pending a b ∧ (a = n ∨ (s.slot a).isLive = false))) :
    s.dueCommit (s.pendingOn n) k = none := by
  by_cases hpending : ∃ anchor replace, (s.group k).state = .pending anchor replace
  · obtain ⟨anchor, replace, hstate⟩ := hpending
    have hnot := not_or.mp fun hor => h anchor replace ⟨hstate, hor⟩
    rw [State.dueCommit_pendingOn n hstate, if_neg hnot.1, if_pos (by simpa using hnot.2)]
  · exact State.dueCommit_of_not_pending (fun a b hab => hpending ⟨a, b, hab⟩) _

/-- Only the PENDING groups of the set handed over count. -/
theorem State.runCommits_congr {fired fired' : List GroupNo} (rounds : Nat) {s : State}
    (h : ∀ g anchor replace, (s.group g).state = .pending anchor replace → (g ∈ fired ↔ g ∈ fired')) :
    State.runCommits rounds fired s = State.runCommits rounds fired' s := by
  induction rounds generalizing s with
  | zero => rfl
  | succ k ih =>
    have hdue : ∀ g, s.dueCommit fired g = s.dueCommit fired' g := by
      intro g
      by_cases hpending : ∃ anchor replace, (s.group g).state = .pending anchor replace
      · obtain ⟨anchor, replace, hstate⟩ := hpending
        rw [State.dueCommit_of_pending hstate, State.dueCommit_of_pending hstate]
        exact if_congr (h g anchor replace hstate) rfl rfl
      · have hnot : ∀ anchor replace, (s.group g).state ≠ .pending anchor replace := fun a b hab => hpending ⟨a, b, hab⟩
        rw [State.dueCommit_of_not_pending hnot, State.dueCommit_of_not_pending hnot]
    have hfirst : s.firstDue fired = s.firstDue fired' := by simp only [State.firstDue, hdue]
    rw [State.runCommits_succ, State.runCommits_succ, hfirst]
    cases s.firstDue fired' with
    | none => rfl
    | some d =>
      refine ih fun g anchor replace hstate => ?_
      by_cases hg : g = d.1
      · rw [State.commitGroup_group, if_pos hg] at hstate
        cases hstate
      · rw [State.group_commitGroup_of_ne _ hg] at hstate
        exact h g anchor replace hstate

/-- Settles O52: the first due group by number, and the groups handed over among those that owe a commit. -/
theorem firedAnchorRunsItsCommits : Obligations.FiredAnchorRunsItsCommits := by
  refine ⟨fun s n => ⟨fun hnone => ?none, fun g anchor replace hdue hlowest => ?first⟩,
    fun s e rest h due g replace hrun hcalendar hdue hphase hslot hstate => ?release⟩
  case none =>
    exact State.runCommits_of_none_due 7 _ s fun g => State.dueCommit_pendingOn_eq_none (hnone g)
  case first =>
    obtain ⟨hstate, howes⟩ := hdue
    have hcause : s.dueCommit (s.pendingOn n) g = some (replace, if anchor = n then .anchorFired else .anchorEnded) := by
      rw [State.dueCommit_pendingOn n hstate]
      by_cases hn : anchor = n
      · rw [if_pos hn, if_pos hn]
      · rw [if_neg hn, if_neg hn, if_neg (by rw [howes.resolve_left hn]; decide)]
    refine (State.runCommits_of_lowest hcause fun k hk => State.dueCommit_pendingOn_eq_none (hlowest k hk)).trans
      (State.runCommits_congr 7 fun k a b hk => ?_)
    by_cases hg : k = g
    · rw [State.commitGroup_group, if_pos hg] at hk
      cases hk
    · rw [State.mem_pendingOn_iff, State.mem_pendingOn_iff, State.group_commitGroup_of_ne _ hg]
  case release =>
    obtain ⟨hexec, hacts⟩ := exec_leadRelease_of_due hrun hcalendar hdue hphase hslot
    generalize (s.setCalendar rest).attempt e h = u at hexec hacts
    have hruns := u.runs_runFiredCommits e.slot
    rw [← State.group_of_groups_eq hacts.groups] at hstate
    have howes : g ∈ u.pendingOn e.slot ∧ CommitCause.anchorFired = .anchorFired ∨ g ∉ u.pendingOn e.slot ∧
        (u.slot e.slot).isComplete = true ∧ CommitCause.anchorFired = .anchorEnded :=
      .inl ⟨State.mem_pendingOn_iff.mpr ⟨replace, hstate⟩, rfl⟩
    refine ⟨_, hexec, (hruns.of_owed hstate howes).1, fun hlists => ?_⟩
    exact hruns.commitDone hstate howes hacts.now (hacts.openListsHold hlists)
      (fun m hm _ => hacts.others m (fun heq => hm (heq ▸ rfl)))
      fun m hm => Option.some.inj hm ▸ ⟨Slot.opened?_of_live hacts.live, hacts.unopened⟩

/-! ### Events that complete their slot -/

/-- A continuation that completes. -/
theorem State.continuation_of_completesNext (s : State) (n : SlotNo) {h : Held} (base : Tick) (behind : Nat)
    (hnext : h.completesNext) : ∃ status, s.continuation n h base behind = s.complete n h status := by
  rcases s.continuation_cases n h base behind with ⟨-, e⟩ | ⟨hpending, hagain, -⟩ | ⟨hpending, -, hrearm, -⟩ | ⟨-, -, -, e⟩
  · exact ⟨_, e⟩
  · obtain hpending' | ⟨hcount, hremaining, -⟩ := hnext
    · exact absurd hpending' (by simp [hpending])
    · rw [hremaining] at hagain
      exact absurd hagain (not_or.mpr ⟨hcount, lt_irrefl 0⟩)
  · obtain hpending' | ⟨-, -, hrearm'⟩ := hnext
    · exact absurd hpending' (by simp [hpending])
    · exact absurd hrearm (by simp [hrearm'])
  · exact ⟨_, e⟩

theorem State.isComplete_complete (s : State) (n : SlotNo) (h : Held) (status : Status) :
    ((s.complete n h status).slot n).isComplete = true := by
  rw [State.slot_complete, if_pos rfl]
  rfl

theorem State.isComplete_continuation (s : State) (n : SlotNo) {h : Held} (base : Tick) (behind : Nat) (hnext : h.completesNext) :
    ((s.continuation n h base behind).slot n).isComplete = true := by
  obtain ⟨status, e⟩ := s.continuation_of_completesNext n base behind hnext
  rw [e, State.isComplete_complete]

/-- A CANCEL takes a live slot out of its collection and completes it. -/
theorem State.cancelSlot_of_live {s : State} {n : SlotNo} (hlive : (s.slot n).isLive = true) :
    ∃ h v, s.Leaves n h v ∧ s.cancelSlot n = some (v.complete n h .cancelled).runEndedCommits := by
  cases hslot : s.slot n with
  | scheduled h due => exact ⟨h, _, .scheduled hslot .withdrawn, by rw [State.cancelSlot, hslot]; rfl⟩
  | parked h => exact ⟨h, _, .parked hslot, by rw [State.cancelSlot, hslot]⟩
  | active h a b p => exact ⟨h, _, .active hslot .withdrawn, by rw [State.cancelSlot, hslot]; rfl⟩
  | _ => rw [hslot] at hlive; exact absurd hlive Bool.false_ne_true

theorem State.sameSlots_releaseClaims (s : State) (h : Held) : s.SameSlots (s.releaseClaims h) := by
  rw [State.releaseClaims_eq]
  exact ⟨rfl, rfl, rfl⟩

theorem State.sameSlots_cut (s : State) (n : SlotNo) (h : Held) : s.SameSlots (s.cut n h) :=
  .trans (t := s.withdraw n) ⟨rfl, rfl, rfl⟩ (State.sameSlots_releaseClaims _ h)

/-- Settles O22: each event acts on the anchor's slot and completes it, so that the group owes its commit. -/
theorem endedAnchorRunsItsCommits : Obligations.EndedAnchorRunsItsCommits := by
  refine ⟨fun s => ⟨fun hnone => ?none, fun g anchor replace hdue hlowest => ?first⟩,
    fun s n g replace hbusy hcode hn hlive hstate => ?cancel,
    fun s l n h leadDue leadTime leadPast g replace hbusy hcode hl hlevel hbreak hclaim hslot hstate hlists => ?force,
    fun s e rest h leadDue leadTime leadPast g replace hrun hcalendar hdue hphase hslot hends hstate hlists => ?release,
    fun s ch dir n h leadDue leadTime leadPast g replace hrun hmode hedge hclaim hslot hnext hstate hlists => ?acknowledge,
    fun s k g n h replace hbusy hcode hk hnow hreplace hpending hslot hgroup hstate hlists => ?commit⟩
  case none =>
    exact s.runEndedCommits_of_anchorsLive (s.anchorsLive_iff.mpr fun g anchor replace hstate =>
      Bool.of_not_eq_false fun hdead => hnone g anchor replace ⟨hstate, hdead⟩)
  case first =>
    obtain ⟨hstate, hdead⟩ := hdue
    refine State.runCommits_of_lowest ?_ fun k hk => Option.eq_none_iff_forall_ne_some.mpr fun d hd => ?_
    · rw [State.dueCommit_of_pending hstate, if_neg List.not_mem_nil, if_neg (by rw [hdead]; decide)]
    · obtain ⟨a, hk', ⟨hmem, -⟩ | ⟨-, hdead', -⟩⟩ := State.pending_of_dueCommit (replace := d.1) (cause := d.2) hd
      · exact absurd hmem List.not_mem_nil
      · exact hlowest k hk a d.1 ⟨hk', hdead'⟩
  case cancel =>
    obtain ⟨h, v, leaves, hcancel⟩ := State.cancelSlot_of_live hlive
    obtain ⟨hexec, -⟩ := exec_cancel_of_leaves hbusy hcode hn leaves hcancel rfl rfl
    obtain ⟨hcomplete, hrecord, hdone⟩ := (leaves.actsOn_complete .cancelled).commitDone_ended (v.isComplete_complete n h _) hstate
    exact ⟨_, hexec, rfl, hcomplete, hrecord, fun hlists => (hdone hlists).of_eq rfl rfl⟩
  case force =>
    obtain ⟨hexec, hacts⟩ := exec_force_of_broken hbusy hcode hl hlevel hclaim hbreak hslot rfl rfl
    obtain ⟨hcomplete, -, hdone⟩ := hacts.commitDone_ended (State.isComplete_complete _ n h .broken) hstate
    exact ⟨_, hexec, hcomplete, (hdone hlists).of_eq rfl rfl⟩
  case release =>
    have hexec := exec_endRelease_of_due hrun hcalendar hdue hphase
    have hlive : (s.slot e.slot).isLive = true := by rw [hslot]; rfl
    have hsame : s.SameSlots ((s.setCalendar rest).releaseClaims h) :=
      .trans (t := s.setCalendar rest) ⟨rfl, rfl, rfl⟩ (State.sameSlots_releaseClaims _ h)
    simp only [State.releaseEnd, hslot] at hexec
    by_cases hkind : h.action.kind = .strobe
    · rw [if_pos hkind] at hexec
      obtain ⟨hcomplete, -, hdone⟩ :=
        (hsame.actsOn_complete hlive h .timeout).commitDone_ended (State.isComplete_complete _ _ h _) hstate
      exact ⟨_, hexec, hcomplete, hdone hlists⟩
    · rw [if_neg hkind] at hexec
      obtain ⟨hcomplete, -, hdone⟩ := (hsame.actsOn_continuation hlive h leadDue _).commitDone_ended
        (State.isComplete_continuation _ _ _ _ (hends.resolve_left hkind)) hstate
      exact ⟨_, hexec, hcomplete, hdone hlists⟩
  case acknowledge =>
    have hexec := exec_edge_of_running ch dir hrun
    rw [State.observeEdge_of_ack (s := s.setPin ch (dir == .rising)) hmode ((EdgeSetting.selects_iff _ _).mpr hedge),
      State.ackEdge_of_claim (s := s.setPin ch (dir == .rising)) dir hclaim hslot] at hexec
    have hlive : (s.slot n).isLive = true := by rw [hslot]; rfl
    have hpin : s.SameSlots (s.setPin ch (dir == .rising)) := ⟨rfl, rfl, rfl⟩
    have hlogged := ((s.setPin ch (dir == .rising)).logged_logChannel ch
      (channelCapture ch .ack (dir == .rising) false (s.setPin ch (dir == .rising)).now none)).sameSlots
    have hsame : s.SameSlots (((s.setPin ch (dir == .rising)).logChannel ch
        (channelCapture ch .ack (dir == .rising) false (s.setPin ch (dir == .rising)).now none)).cut n h) :=
      (hpin.trans hlogged).trans (State.sameSlots_cut _ n h)
    obtain ⟨hcomplete, -, hdone⟩ := (hsame.actsOn_continuation hlive (h.acknowledged s.now leadTime) leadDue _).commitDone_ended
      (State.isComplete_continuation _ _ _ _ hnext) hstate
    exact ⟨_, hexec, hcomplete, hdone hlists⟩
  case commit =>
    have hexec := exec_commitNow hbusy hcode hk hnow hpending fun _ => hreplace
    rw [hreplace] at hexec
    have hne : g ≠ k := fun heq => hpending n replace (heq ▸ hstate)
    have hslots := hlists.slot_commitGroup_eq_committed k true .now
    have hcomplete : ((s.commitGroup k true .now).slot n).isComplete = true := by
      rw [hslots]
      obtain hslot | ⟨due, hslot⟩ := hslot <;> rw [hslot]
      · exact congrArg Slot.isComplete (if_pos hgroup)
      · exact congrArg Slot.isComplete (if_pos hgroup)
    have hruns := (s.commitGroup k true .now).runs_runEndedCommits
    rw [← s.group_commitGroup_of_ne hne true .now] at hstate
    refine ⟨_, hexec, ?_, ?_⟩
    · exact (congrArg Slot.isComplete (hruns.slot_of_complete hcomplete)).trans hcomplete
    · refine State.CommitDone.of_eq (hruns.commitDone hstate (.inr ⟨List.not_mem_nil, hcomplete, rfl⟩)
        (s.commitGroup_now k true .now) (hlists.commitGroup k true .now) (fun m _ hm => ?_) nofun) rfl rfl
      rw [hslots, Slot.committed_of_ne _ _ (hm ▸ fun heq => hne (Option.some.inj heq))]

end Sys2Proof.Machine
end

section
/-! The ends of executions: TIMEBASE (Section 2.6), the INSPECT targets (Section 9.7), and what a refusal leaves alone
(Section 9.2). -/

namespace Sys2Proof.Machine

/-- Settles O16: a row that is an execution either idles, which leaves the unit busy, or finishes with a reply. -/
theorem refusedCommandChangesNothingElse : Obligations.RefusedCommandChangesNothingElse := by
  intro c hc s t hbusy hexec hidle
  rcases exec_executionRow_idlesOrFinishes s c hc with hsame | ⟨reply, -, hend⟩
  · cases Host.Outcome.next.inj (hexec.symm.trans hsame)
    rw [hbusy] at hidle
    cases hidle
  · cases Host.Outcome.next.inj (hexec.symm.trans hend)
    rcases s.finish_cases reply with ⟨code, -, e⟩ | ⟨after, bytes, -, e⟩ <;> rw [e]
    · exact ⟨rfl, fun _ => rfl⟩
    · exact ⟨rfl, fun hcode => absurd rfl hcode⟩

/-! ### TIMEBASE (R29 to R33) -/

section
variable {s : State} (operate : State → State)

theorem State.replyTimebase_of_refused {code : ResultCode} (h : s.timebaseRefusal = some code) :
    s.replyTimebase operate = .error code := by
  simp only [State.replyTimebase, h]

theorem State.replyTimebase_of_passed (h : s.timebaseRefusal = none) :
    s.replyTimebase operate = .ok (operate s, bytesOfTick (operate s).now ++ [byteOfNat (operate s).tb.state.code]) := by
  simp only [State.replyTimebase, h]

end

/-- The rows of TIMEBASE with their operation bytes and operations (R29, R181). -/
inductive TimebaseRow (s : State) : Instr → Nat → (State → State) → Prop where
  | start : TimebaseRow s .timebaseStart 0 State.startTime
  | stop : TimebaseRow s .timebaseStop 1 State.stopTime
  | load : TimebaseRow s .timebaseLoad 2 (fun t => t.loadTime s.loadValue)
  | source : TimebaseRow s .timebaseSource 3 State.applySource

theorem TimebaseRow.exec_eq {s : State} {c : Instr} {own : Nat} {operate : State → State} (row : TimebaseRow s c own operate)
    (hbusy : s.cu.busy = true) (hcode : s.cu.code = 0x08#8) (hop : (s.param 0).toNat = own ∨ 3 < (s.param 0).toNat) :
    exec c s = .next (s.finish (s.replyTimebase operate)) := by
  have hlatched : s.latchedAs codeTimebase own opSource := ⟨⟨hbusy, hcode⟩, hop⟩
  cases row <;> exact congrArg Host.Outcome.next (if_pos hlatched)

theorem TimebaseRow.exec_refused {s : State} {c : Instr} {own : Nat} {operate : State → State} (row : TimebaseRow s c own operate)
    (hbusy : s.cu.busy = true) (hcode : s.cu.code = 0x08#8) (hop : (s.param 0).toNat = own ∨ 3 < (s.param 0).toNat)
    {code : ResultCode} (hrefused : s.timebaseRefusal = some code) : exec c s = .next (s.refused code) := by
  rw [row.exec_eq hbusy hcode hop, State.replyTimebase_of_refused operate hrefused, State.finish_error]

theorem TimebaseRow.exec_passed {s : State} {c : Instr} {own : Nat} {operate : State → State} (row : TimebaseRow s c own operate)
    (hbusy : s.cu.busy = true) (hcode : s.cu.code = 0x08#8) (hop : (s.param 0).toNat = own)
    (hpassed : s.timebaseRefusal = none) :
    exec c s = .next ((operate s).accepted (bytesOfTick (operate s).now ++ [byteOfNat (operate s).tb.state.code])) := by
  rw [row.exec_eq hbusy hcode (.inl hop), State.replyTimebase_of_passed operate hpassed, State.finish_ok]

theorem TimeSource.ofCode_eq (b : Byte) :
    TimeSource.ofCode b = if 1 < b.toNat then none else if b.toNat = 0 then some .internal else some .external := by
  unfold TimeSource.ofCode
  split
  · rename_i h; simp [h]
  · rename_i h; simp [h]
  · rename_i h0 h1
    have hzero : b.toNat ≠ 0 := h0
    have hone : b.toNat ≠ 1 := h1
    rw [if_pos (by omega)]

/-- Settles O31: the checks of R29 in their order. -/
theorem timebaseRefusals : Obligations.TimebaseRefusals := by
  intro s hbusy hcode
  refine ⟨fun habove c hc => ?badOperation, fun hop hrun => TimebaseRow.start.exec_refused hbusy hcode (.inl hop) ?start,
    fun hop hstop => TimebaseRow.stop.exec_refused hbusy hcode (.inl hop) ?stop,
    fun hop hrun => TimebaseRow.load.exec_refused hbusy hcode (.inl hop) ?load,
    fun hop hstop hentries => TimebaseRow.load.exec_refused hbusy hcode (.inl hop) ?loadEntries,
    fun hop hsource => TimebaseRow.source.exec_refused hbusy hcode (.inl hop) ?badSource,
    fun hop hsource hrun => TimebaseRow.source.exec_refused hbusy hcode (.inl hop) ?source⟩
  case badOperation =>
    have hrefused : s.timebaseRefusal = some .badCfg := if_pos habove
    simp only [List.mem_cons, List.not_mem_nil, or_false] at hc
    obtain rfl | rfl | rfl | rfl := hc
    · exact TimebaseRow.start.exec_refused hbusy hcode (.inr habove) hrefused
    · exact TimebaseRow.stop.exec_refused hbusy hcode (.inr habove) hrefused
    · exact TimebaseRow.load.exec_refused hbusy hcode (.inr habove) hrefused
    · exact TimebaseRow.source.exec_refused hbusy hcode (.inr habove) hrefused
  case start => simp [State.timebaseRefusal, hop, hrun, opStart, opSource]
  case stop => simp [State.timebaseRefusal, hop, hstop, opStop, opSource]
  case load => simp [State.timebaseRefusal, hop, hrun, opLoad, opSource]
  case loadEntries => simp [State.timebaseRefusal, hop, hstop, hentries, opStart, opStop, opLoad, opSource]
  case badSource => simp [State.timebaseRefusal, hop, hsource, TimeSource.ofCode_eq, opSource]
  case source =>
    have hnamed : TimeSource.ofCode (s.param 5) ≠ none := by
      rw [TimeSource.ofCode_eq, if_neg (by omega)]
      split <;> exact Option.some_ne_none _
    simp [State.timebaseRefusal, hop, hrun, hnamed, opSource]

/-- Settles O32: each operation's state, whose value and state are the result. -/
theorem timebaseOperations : Obligations.TimebaseOperations := by
  intro s hbusy hcode bytes cleared
  have hstopped : s.tb.state = .stopped → byteOfNat s.tb.state.code = 0 := fun hstop => by rw [hstop]; rfl
  refine ⟨fun hop hstop => ?start, fun hop hrun => ?stop, fun hop hstop hempty => ?load, fun hop hstop hsource => ?source⟩
  case start =>
    exact TimebaseRow.start.exec_passed hbusy hcode hop
      (by simp [State.timebaseRefusal, hop, hstop, opStart, opStop, opLoad, opSource])
  case stop =>
    exact TimebaseRow.stop.exec_passed hbusy hcode hop
      (by simp [State.timebaseRefusal, hop, hrun, opStart, opStop, opLoad, opSource])
  case load =>
    have hexec := TimebaseRow.load.exec_passed hbusy hcode hop
      (by simp [State.timebaseRefusal, hop, hstop, hempty, opStart, opStop, opLoad, opSource])
    have hnow : (s.loadTime s.loadValue).now = s.loadValue := rfl
    have hstate : (s.loadTime s.loadValue).tb.state = s.tb.state := rfl
    rw [hnow, hstate, hstopped hstop] at hexec
    exact hexec
  case source =>
    have hnamed : TimeSource.ofCode (s.param 5) = some (if (s.param 5).toNat = 0 then .internal else .external) := by
      rw [TimeSource.ofCode_eq, if_neg (by omega)]
      exact (apply_ite some _ _ _).symm
    have hexec := TimebaseRow.source.exec_passed hbusy hcode hop
      (by simp [State.timebaseRefusal, hop, hstop, hnamed, opStart, opStop, opLoad, opSource])
    have happly : s.applySource
        = s.sourceTime (if (s.param 5).toNat = 0 then .internal else .external) ((s.param 6).toNat + 1) := by
      simp only [State.applySource, hnamed]
    have hstate : s.applySource.tb.state = s.tb.state := by rw [happly]; rfl
    have hnow : s.applySource.now = s.tb.value := by rw [happly]; rfl
    rw [hnow, hstate, hstopped hstop, happly] at hexec
    exact hexec

/-! ### INSPECT (R18, R55, R82, R105, R131) -/

/-- The rows of INSPECT with their target bytes and views (R181). -/
inductive InspectRow (s : State) : Instr → Nat → Except ResultCode (List Byte) → Prop where
  | slot : InspectRow s .inspectSlot 0 s.viewOfSlot
  | group : InspectRow s .inspectGroup 1 s.viewOfGroup
  | channel : InspectRow s .inspectChannel 2 s.viewOfChannel
  | lines : InspectRow s .inspectLines 3 (.ok s.linesView)
  | time : InspectRow s .inspectTime 4 (.ok s.timeView)

section
variable {s : State} {c : Instr} {own : Nat} {view : Except ResultCode (List Byte)}

theorem InspectRow.exec_eq (row : InspectRow s c own view) (hbusy : s.cu.busy = true) (hcode : s.cu.code = 0x0C#8)
    (hop : (s.param 0).toNat = own ∨ 4 < (s.param 0).toNat) : exec c s = .next (s.finish (s.replyInspect view)) := by
  have hlatched : s.latchedAs codeInspect own targetTime := ⟨⟨hbusy, hcode⟩, hop⟩
  cases row <;> exact congrArg Host.Outcome.next (if_pos hlatched)

theorem InspectRow.own_le (row : InspectRow s c own view) : own ≤ 4 := by
  cases row <;> decide

theorem State.replyInspect_of_named (h : (s.param 0).toNat ≤ 4) (bytes : List Byte) :
    s.replyInspect (.ok bytes) = .ok (s, bytes) := if_neg (not_lt.mpr h)

theorem State.replyInspect_of_error (h : (s.param 0).toNat ≤ 4) (code : ResultCode) :
    s.replyInspect (.error code) = .error code := if_neg (not_lt.mpr h)

theorem InspectRow.exec_badTarget (row : InspectRow s c own view) (hbusy : s.cu.busy = true) (hcode : s.cu.code = 0x0C#8)
    (habove : 4 < (s.param 0).toNat) : exec c s = .next (s.refused .badCfg) := by
  have hreply : s.replyInspect view = .error .badCfg := if_pos habove
  rw [row.exec_eq hbusy hcode (.inr habove), hreply, State.finish_error]

theorem InspectRow.exec_error (row : InspectRow s c own view) (hbusy : s.cu.busy = true) (hcode : s.cu.code = 0x0C#8)
    (hop : (s.param 0).toNat = own) {code : ResultCode} (hview : view = .error code) : exec c s = .next (s.refused code) := by
  rw [row.exec_eq hbusy hcode (.inl hop), hview, State.replyInspect_of_error (hop ▸ row.own_le), State.finish_error]

theorem InspectRow.exec_ok (row : InspectRow s c own view) (hbusy : s.cu.busy = true) (hcode : s.cu.code = 0x0C#8)
    (hop : (s.param 0).toNat = own) {bytes : List Byte} (hview : view = .ok bytes) : exec c s = .next (s.accepted bytes) := by
  rw [row.exec_eq hbusy hcode (.inl hop), hview, State.replyInspect_of_named (hop ▸ row.own_le), State.finish_ok]

end

theorem byteOrAbsent_line (line : Option LineNo) :
    byteOrAbsent line = match line with
      | none => 0xFF#8
      | some l => BitVec.ofNat 8 l.val := by
  cases line <;> rfl

theorem byteOrAbsent_slot (slot : Option SlotNo) :
    byteOrAbsent slot = match slot with
      | none => 0xFF#8
      | some n => BitVec.ofNat 8 n.val := by
  cases slot <;> rfl

/-- Settles O35: by the target, the index and the slot's state. -/
theorem inspectSlotReturnsTheView : Obligations.InspectSlotReturnsTheView := by
  intro s hbusy hcode
  refine ⟨InspectRow.slot.exec_badTarget hbusy hcode, fun hop habove => ?badSlot, fun n hop hn => ?named⟩
  case badSlot =>
    refine InspectRow.slot.exec_error hbusy hcode hop ?_
    rw [State.viewOfSlot, (slotOf_eq_none_iff _).mpr habove]
  case named =>
    have hview : s.viewOfSlot = .ok (slotView (s.slot n)) := by
      rw [State.viewOfSlot, (slotOf_eq_some_iff _ n).mpr hn]
    refine ⟨fun hfree => ?free, fun h hheld => ?held⟩
    case free =>
      refine InspectRow.slot.exec_ok hbusy hcode hop (hview.trans ?_)
      rw [hfree]
      rfl
    case held =>
      intro time
      refine InspectRow.slot.exec_ok hbusy hcode hop (hview.trans ?_)
      revert time
      generalize s.slot n = x at hheld
      intro time
      cases x with
      | free => cases hheld
      | _ =>
        cases hheld
        simp only [slotView, Slot.held?, byteOrAbsent_line]
        rfl

/-- The bit of a line in a view of all sixteen. -/
theorem packBits_lines (f : LineNo → Bool) (l : LineNo) : (packBits 16 (lineNumbers.map f)).getLsbD l.val = f l := by
  have hl := l.isLt
  rw [packBits_getLsbD, decide_eq_true hl, Bool.true_and]
  simp [lineNumbers]

/-- Settles O36: by the target, each view in its layout. -/
theorem inspectOtherTargetsReturnTheirViews : Obligations.InspectOtherTargetsReturnTheirViews := by
  intro s hbusy hcode
  refine ⟨fun habove c hc => ?badTarget, fun hop hout => ?badGroup, fun g hop hg => ?group, fun hop habove => ?badChan,
    fun c hop hc => ?channel, fun hop => ?lines, fun hop => ?time⟩
  case badTarget =>
    simp only [List.mem_cons, List.not_mem_nil, or_false] at hc
    obtain rfl | rfl | rfl | rfl := hc
    · exact InspectRow.group.exec_badTarget hbusy hcode habove
    · exact InspectRow.channel.exec_badTarget hbusy hcode habove
    · exact InspectRow.lines.exec_badTarget hbusy hcode habove
    · exact InspectRow.time.exec_badTarget hbusy hcode habove
  case badGroup =>
    refine InspectRow.group.exec_error hbusy hcode hop ?_
    rw [State.viewOfGroup, (groupOf_eq_none_iff _).mpr hout]
  case group =>
    refine InspectRow.group.exec_ok hbusy hcode hop ?_
    rw [State.viewOfGroup, (groupOf_eq_some_iff _ g).mpr hg]
    simp only [State.groupView]
    cases (s.group g).state with
    | pending anchor replace => cases replace <;> rfl
    | _ => rfl
  case badChan =>
    refine InspectRow.channel.exec_error hbusy hcode hop ?_
    rw [State.viewOfChannel, (chanOf_eq_none_iff _).mpr habove]
  case channel =>
    refine InspectRow.channel.exec_ok hbusy hcode hop ?_
    rw [State.viewOfChannel, (chanOf_eq_some_iff _ c).mpr hc]
    simp only [channelView, byteOrAbsent_slot]
    rfl
  case lines =>
    refine ⟨_, _, _, InspectRow.lines.exec_ok hbusy hcode hop rfl, fun l => ⟨packBits_lines _ l, packBits_lines _ l, ?_⟩⟩
    rw [packBits_lines (fun l => (s.line l).polarity == .activeLow), beq_iff_eq]
  case time =>
    refine InspectRow.time.exec_ok hbusy hcode hop ?_
    rw [State.timeView]
    cases s.calendar <;> rfl

end Sys2Proof.Machine
end

section
/-! Reset (Section 9.8), the window's locations (Sections 9.1 and 9.6), the interrupt request line (Section 8.5), and counting
source edges (Section 2.2). -/

namespace Sys2Proof.Machine

/-! ### The records after reset (R188) -/

theorem State.slot_reset (n : SlotNo) : State.reset.slot n = .free := by simp [State.slot, State.reset, Vector.get_eq_getElem]

theorem State.line_reset (l : LineNo) : State.reset.line l = Line.afterReset := by
  simp [State.line, State.reset, Vector.get_eq_getElem]

theorem State.channel_reset (c : ChanNo) : State.reset.channel c = Channel.afterReset := by
  simp [State.channel, State.reset, Vector.get_eq_getElem]

theorem State.group_reset (g : GroupNo) : State.reset.group g = Group.afterReset := by
  simp [State.group, State.reset, Vector.get_eq_getElem]

/-- Settles O5: after reset every slot is FREE and every collection, claim and measurement is empty. -/
theorem resetIsLawful : Obligations.ResetIsLawful where
  actions n h hh := by rw [State.slot_reset] at hh; exact nomatch hh
  remaining n := by rw [State.slot_reset]; rfl
  queue := ⟨List.nodup_nil, fun n => by rw [State.slot_reset]; simp [State.reset, Slot.isComplete]⟩
  calendar n := by rw [State.slot_reset]; rfl
  ordered := .nil
  pastFloors := ⟨fun e he => absurd he List.not_mem_nil, fun n => by rw [State.slot_reset]; rfl⟩
  openLists := by
    refine ⟨fun g => ?_, fun n hn => ?_⟩
    · rw [State.group_reset]
      exact ⟨List.nodup_nil, fun n => by rw [State.slot_reset]; simp [Group.afterReset, Slot.isOpenIn], fun _ => rfl, nofun⟩
    · rw [State.slot_reset] at hn
      exact nomatch hn
  parkedLists c := by
    rw [State.channel_reset]
    exact ⟨List.nodup_nil, fun n => by rw [State.slot_reset]; simp [Channel.afterReset, Slot.isParkedOn]⟩
  claims l := by
    rw [State.line_reset]
    exact ⟨fun n => by rw [State.slot_reset]; simp [Line.afterReset, Slot.isActiveOn], fun h => absurd rfl h⟩
  ackClaims c := by
    rw [State.channel_reset]
    exact ⟨fun n => by rw [State.slot_reset]; simp [Channel.afterReset, Slot.isStrobeOn], fun h => absurd rfl h⟩
  anchors g := by rw [State.group_reset]; trivial
  measurements c := by
    rw [State.channel_reset]
    exact ⟨fun h => absurd rfl h, fun h => absurd rfl h, nofun⟩
  reporting := by decide
  timebase := by decide
  command := nofun
  resetHeld := nofun

/-! ### The window (R167, R182) -/

theorem ResultCode.code_lt (c : ResultCode) : c.code < 64 := by cases c <;> decide

theorem State.cmdstat_toNat (s : State) :
    s.cmdstat.toNat = s.cu.resultCode.code + 64 * s.cu.overrun.toNat + 128 * s.cu.busy.toNat := by
  have hcode := s.cu.resultCode.code_lt
  have hoverrun := s.cu.overrun.toNat_le
  have hbusy := s.cu.busy.toNat_le
  rw [State.cmdstat, byteOfNat, BitVec.toNat_ofNat, Nat.mod_eq_of_lt (by omega)]

theorem State.location_unused (s : State) {o : BitVec 5} (hlow : 9 ≤ o.toNat) (hhigh : o.toNat < 16) : s.location o = 0 := by
  unfold State.location
  split
  case h_10 => exact dif_neg (by omega)
  all_goals omega

theorem State.groupDoneBits_getLsbD (s : State) (g : GroupNo) : s.groupDoneBits.getLsbD (g.val + 1) = (s.group g).done := by
  have hg := g.isLt
  rw [State.groupDoneBits, packBits_getLsbD, decide_eq_true (by omega), Bool.true_and, List.getD_cons_succ]
  simp [groupNumbers]

/-- Settles O3: the location under each offset. -/
theorem windowReads : Obligations.WindowReads := by
  refine ⟨fun s o hasserted => ?held, fun s hreleased => ?released⟩
  case held => rw [State.readWindow, hasserted]; rfl
  case released =>
    have hread := fun o => s.readWindow_of_released o hreleased
    have hcode := s.cu.resultCode.code_lt
    have hstat := s.cmdstat_toNat
    have hbit : ∀ k, (s.readWindow 0x00).getLsbD k = decide (s.cmdstat.toNat / 2 ^ k % 2 = 1) := fun k => by
      rw [hread, ← Nat.testBit_eq_decide_div_mod_eq]
      rfl
    refine ⟨⟨?busy, ?overrun, ?code⟩, rfl, hread _, hread _, hread _, hread _, hread _,
      ⟨by rw [hread]; exact packBits_getLsbD _ _ _, fun g => by rw [hread]; exact s.groupDoneBits_getLsbD g⟩,
      fun k hlow hhigh => ?unused, fun k => by rw [hread]; exact s.location_buffer k⟩
    case busy | overrun =>
      rw [hbit, hstat]
      cases s.cu.busy <;> cases s.cu.overrun <;> simp <;> omega
    case code =>
      rw [hread]
      change s.cmdstat.toNat % 64 = _
      rw [hstat]
      omega
    case unused =>
      have hoffset : (BitVec.ofNat 5 k).toNat = k := by rw [BitVec.toNat_ofNat, Nat.mod_eq_of_lt (by omega)]
      rw [hread, s.location_unused (by rw [hoffset]; exact hlow) (by rw [hoffset]; omega)]

theorem State.writeWindow_ignored (s : State) {o : BitVec 5} (v : Byte) (hlow : 4 ≤ o.toNat) (hhigh : o.toNat < 16)
    (hdone : o.toNat ≠ 8) : s.writeWindow o v = s := by
  unfold State.writeWindow
  split
  case h_6 => exact dif_neg (by omega)
  all_goals omega

/-- Settles O8: the location's row, or none. -/
theorem otherWindowWrites : Obligations.OtherWindowWrites := by
  intro v s hreleased
  have hwrite := fun o => exec_registerWrite_of_released o v hreleased
  refine ⟨fun o hlow hhigh hdone => ?ignored, ⟨s.writeGroupdone v, ?exec, rfl, fun g => ?flag⟩, rfl, rfl, rfl, rfl, rfl⟩
  case ignored =>
    rw [hwrite, s.writeWindow_ignored v hlow hhigh fun h => hdone (BitVec.eq_of_toNat_eq h)]
  case exec => exact congrArg Host.Outcome.next (State.access_of_released _ hreleased)
  case flag =>
    rw [State.group_writeGroupdone]
    cases v.getLsbD (g.val + 1) <;> simp

/-! ### /IRQ (R164) -/

theorem State.causeBits_group_iff (s : State) : s.causeBits.getLsbD 3 = true ↔ ∃ g : GroupNo, (s.group g).done = true := by
  rw [State.causeBits, packBits_getLsbD]
  simp [State.causeGroup, groupNumbers]

theorem exists_lt_five (p : Nat → Prop) : (∃ k < 5, p k) ↔ p 0 ∨ p 1 ∨ p 2 ∨ p 3 ∨ p 4 := by
  simp only [Nat.exists_lt_succ_left, Nat.not_lt_zero, false_and, exists_false, or_false]

/-- Settles O12: cause by cause. -/
theorem interruptRequestLine : Obligations.InterruptRequestLine := by
  intro s
  have hdone : s.causeBits.getLsbD 0 = true ↔ s.doneQueue ≠ [] := by
    rw [← Bool.not_eq_false, Ne, ← s.causeBits_done_eq_false_iff]
  rw [s.irqAsserted_iff, exists_lt_five, hdone, s.causeBits_logmark_iff, s.causeBits_logovr_iff, s.causeBits_group_iff,
    s.causeBits_getLsbD_cmd]

/-! ### Counting source edges (R22, R23, R52) -/

theorem Timebase.countEdge_eq {t : Timebase} (h : t.advanceDue = false) :
    t.countEdge =
      { t with
        prescaleCount := if t.prescaleCount + 1 = t.prescale then 0 else t.prescaleCount + 1
        advanceDue := decide (t.prescaleCount + 1 = t.prescale) } := by
  unfold Timebase.countEdge
  by_cases hfull : t.prescaleCount + 1 = t.prescale
  · rw [if_pos hfull, if_pos hfull, decide_eq_true hfull]
  · rw [if_neg hfull, if_neg hfull, decide_eq_false hfull, ← h]

theorem State.takeDueAdvance_of_due {s : State} (h : s.tb.advanceDue = true) : s.takeDueAdvance = s.advanceTime := if_pos h

theorem State.takeDueAdvance_of_not_due {s : State} (h : s.tb.advanceDue = false) : s.takeDueAdvance = s :=
  if_neg (Bool.eq_false_iff.mp h)

theorem TimeSource.pin_eq_iff (source : TimeSource) (pin : SourcePin) :
    source.pin = pin ↔ (source = .internal ∧ pin = .clk) ∨ (source = .external ∧ pin = .tcnt) := by
  cases source <;> cases pin <;> decide

theorem exec_sourceEdge_of_selected {s : State} {pin : SourcePin} (hrun : s.tb.state = .running) (hpin : s.tb.source.pin = pin) :
    exec (.sourceEdge pin) s = .next (s.takeDueAdvance.setTimebase s.takeDueAdvance.tb.countEdge) :=
  congrArg Host.Outcome.next (if_pos ⟨by simp [State.running, hrun], hpin⟩)

/-- Settles O37: the edge counted, and the advance with each entry's distance. -/
theorem sourceEdgesMakeAdvances : Obligations.SourceEdgesMakeAdvances := by
  intro s pin hrun
  have hadvance : exec .advance s = .next s.takeDueAdvance :=
    congrArg Host.Outcome.next (if_pos (by simp [State.running, hrun]))
  refine ⟨fun hother => ?other, fun hselected hdue => ?counted, fun hdue => ?idle, fun hdue => ?advances⟩
  case other =>
    refine congrArg Host.Outcome.next (if_neg fun h => ?_)
    obtain ⟨hsource, rfl⟩ | ⟨hsource, rfl⟩ := hother <;> exact absurd h.2 (by rw [hsource]; decide)
  case counted =>
    rw [exec_sourceEdge_of_selected hrun ((TimeSource.pin_eq_iff _ _).mpr hselected), State.takeDueAdvance_of_not_due hdue,
      Timebase.countEdge_eq hdue]
    rfl
  case idle => rw [hadvance, State.takeDueAdvance_of_not_due hdue]
  case advances =>
    rw [State.takeDueAdvance_of_due hdue] at hadvance
    refine ⟨s.advanceTime, hadvance, rfl, ?fields, ?distances, fun hselected => ?further⟩
    case fields =>
      refine List.map_map.trans (List.map_congr_left fun e _ => ?_)
      obtain ⟨hslot, hphase, hentry⟩ := e.overAdvance_eq s.now
      simp only [Function.comp_apply, hslot, hphase, hentry]
    case distances => exact List.map_map.trans (List.map_congr_left fun e _ => e.distance_overAdvance s.now)
    case further =>
      have hpin := (TimeSource.pin_eq_iff _ _).mpr hselected
      rw [exec_sourceEdge_of_selected hrun hpin, exec_sourceEdge_of_selected (s := s.advanceTime) hrun hpin,
        State.takeDueAdvance_of_due hdue, State.takeDueAdvance_of_not_due (s := s.advanceTime) rfl]

end Sys2Proof.Machine
end

section
/-! POST that passes its checks (Sections 1.2 to 1.5), and QUIESCE (Section 9.3). -/

namespace Sys2Proof.Machine

/-! ### What a POST takes (R7, R180) -/

/-- The slot taken is the lowest-numbered FREE one (R7). -/
theorem State.firstFree_lowest {s : State} {n : SlotNo} (h : s.firstFree = some n) {m : SlotNo} (hm : m < n) :
    s.slot m ≠ .free := by
  obtain ⟨-, before, after, hsplit, hbefore⟩ := List.find?_eq_some_iff_append.mp h
  have hsorted : (before ++ n :: after).Pairwise (· < ·) := hsplit ▸ List.pairwise_lt_finRange 64
  have hmem : m ∈ before ++ n :: after := hsplit ▸ mem_slotNumbers m
  rw [List.mem_append, List.mem_cons] at hmem
  obtain hin | heq | hin := hmem
  · simpa using hbefore m hin
  · exact absurd heq hm.ne
  · have hafter := (List.pairwise_cons.mp (List.pairwise_append.mp hsorted).2.1).1 m hin
    exact absurd hm (not_lt.mpr hafter.le)

theorem groupNumber_groupOf {k : Nat} (h : k < 8) : groupNumber (groupOf k) = k := by
  unfold groupOf
  split
  · simp only [groupNumber]; omega
  · simp only [groupNumber]; omega

theorem lineOf_map_val {b : Byte} (h : lineOf b ≠ none) : (lineOf b).map (·.val) = some b.toNat := by
  unfold lineOf at h ⊢
  split
  · rfl
  · rename_i hlarge
    exact absurd (dif_neg hlarge) h

theorem Kind.hasWidth_iff (kind : Kind) : kind.hasWidth = true ↔ kind = .pulse ∨ kind = .strobe := by cases kind <;> decide

/-- Settles O18: the request of the latch, field by field. -/
theorem postTakesTheLowestFreeSlot : Obligations.PostTakesTheLowestFreeSlot := by
  intro s a n hcheck
  obtain ⟨kind, mode, hkind, hmode, hrearm, hline, htime, hfree, -, rfl⟩ := State.checkPost_eq_ok hcheck
  have hmodeCode : (s.param 1).toNat % 4 = mode.code := by
    rw [← (TimingMode.ofCode_eq_some_iff _ _).mp hmode]
    simp [State.postRequest]
  have hwidth := kind.hasWidth_iff
  refine ⟨⟨State.firstFree_eq_some hfree, fun m => State.firstFree_lowest hfree⟩, (Kind.ofCode_eq_some_iff _ _).mp hkind,
    hmodeCode, rfl, rfl, fun hnote => if_pos hnote, fun hnote => ?line, fun hchannel => ?channel, fun hstrobe htrig => ?noChannel,
    groupNumber_groupOf (Nat.mod_lt _ (by decide)), rfl, word_toNat _ _ _ _, fun hfires => ?width,
    fun hpulse hstrobe => ?noWidth, half_toNat _ _, triple_toNat _ _ _, PostRequest.action_wellFormed hrearm hline htime⟩
  case line =>
    have hnamed : (s.postRequest.action kind mode).line = lineOf (s.param 2) := if_neg hnote
    rw [hnamed]
    exact lineOf_map_val (hline hnote)
  case channel =>
    have hnamed : (s.postRequest.action kind mode).channel = some s.postRequest.channel := if_pos hchannel
    rw [hnamed]
    rfl
  case noChannel => exact if_neg (not_or_intro hstrobe htrig)
  case width =>
    have hnamed : (s.postRequest.action kind mode).width = some s.postRequest.width := if_pos (hwidth.mpr hfires)
    rw [hnamed, Option.map_some]
    exact congrArg some (half_toNat _ _)
  case noWidth => exact if_neg fun h => (hwidth.mp h).elim hpulse hstrobe

/-- A POST that passes its checks (R9, R11). -/
theorem exec_post_of_passed {s : State} {a : Action} {n : SlotNo} (hbusy : s.cu.busy = true) (hcode : s.cu.code = 0x01#8)
    (hcheck : s.checkPost = .ok (a, n)) : exec .post s = .next ((s.takeSlot a n).accepted [BitVec.ofNat 8 n.val]) := by
  have hreply : s.replyPost = .ok (s.takeSlot a n, [byteOfNat n.val]) := by simp only [State.replyPost, hcheck]
  rw [exec_post_of_latched s ⟨hbusy, hcode⟩, hreply, State.finish_ok]
  rfl

/-- A slot that opens in a group which is not PENDING leaves the group FILLING (R9). -/
theorem State.openInto_eq {s : State} (n : SlotNo) (h : Held) {g : GroupNo}
    (hstate : ∀ anchor replace, (s.group g).state ≠ .pending anchor replace) :
    s.openInto n h g =
      { s with
        slots := s.slots.set n.val (.opened h) n.isLt
        groups := s.groups.set g.val
          { s.group g with openList := (s.group g).openList ++ [n], state := .filling } g.isLt } := by
  have hsame : (s.setSlot n (.opened h)).group g = s.group g := rfl
  unfold State.openInto
  simp only [hsame]
  cases hg : (s.group g).state with
  | pending anchor replace => exact absurd hg (hstate anchor replace)
  | _ => rfl

/-- Settles O19: by the group of the action, and then by its timing mode. -/
theorem postOpensOrPlacesTheSlot : Obligations.PostOpensOrPlacesTheSlot := by
  intro s a n hbusy hcode hcheck h
  have hexec := exec_post_of_passed hbusy hcode hcheck
  obtain ⟨kind, mode, -, -, -, -, -, -, hpending, haction⟩ := State.checkPost_eq_ok hcheck
  have hplace : a.group = none → s.takeSlot a n = s.place n h := fun hnone => by
    simp only [State.takeSlot, hnone]
    rfl
  refine ⟨fun g hgroup => ?opens, fun hnone hmode => ?abs, fun hnone hmode => ?rel, fun c hnone hmode hchannel => ?trig⟩
  case opens =>
    have hstate : ∀ anchor replace, (s.group g).state ≠ .pending anchor replace := fun anchor replace hstate => by
      have hgroup' : s.postRequest.group = some g := by rw [← hgroup, haction]; rfl
      rw [(s.groupIsPending_iff _).mpr ⟨g, anchor, replace, hgroup', hstate⟩] at hpending
      cases hpending
    have htake : s.takeSlot a n = s.openInto n h g := by
      simp only [State.takeSlot, hgroup]
      rfl
    rw [hexec, htake, State.openInto_eq n h hstate]
  case abs =>
    have hmode' : h.action.mode = .abs := hmode
    rw [hexec, hplace hnone, State.place, hmode']
    rfl
  case rel =>
    have hmode' : h.action.mode = .rel := hmode
    rw [hexec, hplace hnone, State.place, hmode']
    rfl
  case trig =>
    have hmode' : h.action.mode = .trig := hmode
    have hchannel' : h.reloaded.action.channel = some c := hchannel
    rw [hexec, hplace hnone, State.place, hmode', State.park, hchannel']
    rfl

/-! ### QUIESCE (R178) -/

/-- What of the state no block's quiescing touches besides the bus side: the timebase, the lateness limit and the log. -/
def State.untimed (s : State) : Timebase × Half × List Capture := (s.tb, s.latenessLimit, s.log)

theorem State.quiesceSlot_untimed (s : State) (n : SlotNo) : (s.quiesceSlot n).untimed = s.untimed := by
  unfold State.quiesceSlot
  cases s.slot n with
  | parked h => simp only; rw [State.unpark_eq]; rfl
  | active h a b p => simp only; rw [State.cut_eq, State.releaseClaims_eq]; rfl
  | _ => rfl

theorem State.quiesced_untimed (s : State) : s.quiesced.untimed = s.untimed := by
  have hlines : ∀ t : State, t.idleLines.clearMeasurements.untimed = t.untimed := fun t => by
    simp only [State.untimed, State.clearMeasurements, State.idleLines]
  have hgroups : s.emptyGroups.untimed = s.untimed := by simp only [State.untimed, State.emptyGroups]
  rw [State.quiesced, hlines, foldl_keeps State.quiesceSlot State.untimed State.quiesceSlot_untimed, hgroups]

/-- A state with the same bus side, timebase, lateness limit and log. -/
theorem State.eq_of_busSide_of_untimed {s t : State} (hbus : t.busSide = s.busSide) (hkept : t.untimed = s.untimed) :
    t = { s with slots := t.slots, calendar := t.calendar, lines := t.lines, channels := t.channels, groups := t.groups,
                 doneQueue := t.doneQueue } := by
  cases s
  cases t
  simp only [State.busSide, State.untimed, Prod.mk.injEq] at hbus hkept
  obtain ⟨rfl, rfl, rfl, rfl, rfl, rfl, rfl, rfl⟩ := hbus
  obtain ⟨rfl, rfl, rfl⟩ := hkept
  rfl

theorem State.cu_eq_of_busSide_eq {s t : State} (h : t.busSide = s.busSide) : t.cu = s.cu :=
  congrArg (fun side => side.2.2.2.2.2.1) h

theorem State.quiesceSlot_doneQueue (s : State) (n : SlotNo) :
    (s.quiesceSlot n).doneQueue = if (s.slot n).isLive then s.doneQueue ++ [n] else s.doneQueue := by
  unfold State.quiesceSlot
  cases s.slot n with
  | parked h => exact congrArg (· ++ [n]) (s.unpark_doneQueue n h)
  | active h a b p => simp only; rw [State.cut_eq, State.releaseClaims_eq]; rfl
  | _ => rfl

theorem State.quiesced_doneQueue (s : State) :
    s.quiesced.doneQueue = s.doneQueue ++ slotNumbers.filter (fun n => (s.slot n).isLive) := by
  have hfold := (view_foldl State.quiesceSlot State.doneQueue (fun q n x => if x.isLive then q ++ [n] else q) s.emptyGroups.now
    (fun t n _ => t.quiesceSlot_doneQueue n) (fun t n m hm => by rw [State.slot_quiesceSlot, if_neg hm])
    State.quiesceSlot_now slotNumbers_nodup s.emptyGroups rfl).trans
    (foldl_append_filter (fun n => (s.emptyGroups.slot n).isLive) slotNumbers s.emptyGroups.doneQueue)
  rw [State.quiesced, State.clearMeasurements_doneQueue, State.idleLines_doneQueue, hfold]
  simp only [State.emptyGroups_slot, State.emptyGroups_doneQueue]

/-- After a QUIESCE no slot has an entry, a parked place or a claim. -/
theorem Slot.quiesced_idle (now : Tick) (x : Slot) : (x.quiesced now).entries = [] ∧
    (∀ c, (x.quiesced now).isParkedOn c = false) ∧ (∀ l, (x.quiesced now).isActiveOn l = false) ∧
    ∀ c, (x.quiesced now).isStrobeOn c = false := by
  cases x <;> exact ⟨rfl, fun _ => rfl, fun _ => rfl, fun _ => rfl⟩

theorem State.quiesced_calendar {s : State} (hs : s.CalendarHolds) : s.quiesced.calendar = [] := by
  have hcalendar := (State.Change.quiesce (s := s)).keepsCalendar hs
  refine List.eq_nil_iff_forall_not_mem.mpr fun e he => ?_
  have hentries := hcalendar e.slot
  rw [State.slot_quiesced, (Slot.quiesced_idle s.now (s.slot e.slot)).1, List.map_eq_nil_iff] at hentries
  have hin : e ∈ s.quiesced.calendar.filter (fun d => d.slot == e.slot) := List.mem_filter.mpr ⟨he, beq_self_eq_true e.slot⟩
  rw [hentries] at hin
  exact absurd hin List.not_mem_nil

/-- The polarity of a line, which no firing touches. -/
theorem State.quiesceSlot_polarity (l : LineNo) (s : State) (n : SlotNo) :
    ((s.quiesceSlot n).line l).polarity = (s.line l).polarity := by
  unfold State.quiesceSlot
  cases s.slot n with
  | parked h => simp only; rw [State.unpark_eq]; rfl
  | active h a b p =>
    simp only
    rw [State.cut_eq, State.complete_line, State.releaseClaims_line]
    split <;> rfl
  | _ => rfl

theorem State.line_quiesced {s : State} (hs : s.ClaimsHold) (l : LineNo) :
    s.quiesced.line l = { isActive := false, polarity := (s.line l).polarity, claim := none } := by
  have hclaim : (s.quiesced.line l).claim = none := by
    refine Option.eq_none_iff_forall_ne_some.mpr fun n hn => ?_
    have hactive := (((State.Change.quiesce (s := s)).keepsClaims hs l).1 n).mp hn
    rw [State.slot_quiesced, (Slot.quiesced_idle s.now (s.slot n)).2.2.1] at hactive
    cases hactive
  have hline : s.quiesced.line l
      = { (slotNumbers.foldl State.quiesceSlot s.emptyGroups).line l with isActive := false } := by
    rw [State.quiesced, State.clearMeasurements_line, State.line_idleLines]
  have hpolarity : ((slotNumbers.foldl State.quiesceSlot s.emptyGroups).line l).polarity = (s.line l).polarity := by
    rw [foldl_keeps State.quiesceSlot (fun t => (t.line l).polarity) (State.quiesceSlot_polarity l), State.emptyGroups_line]
  rw [hline] at hclaim ⊢
  generalize (slotNumbers.foldl State.quiesceSlot s.emptyGroups).line l = x at hclaim hpolarity ⊢
  rw [← hpolarity]
  cases x
  cases hclaim
  rfl

/-- A channel with its configuration alone. -/
def Channel.idle (c : Channel) : Channel :=
  { c with reference := none, watch := none, violationMark := false, ackClaim := none, parked := [] }

theorem State.quiesceSlot_idle (c : ChanNo) (s : State) (n : SlotNo) :
    ((s.quiesceSlot n).channel c).idle = (s.channel c).idle := by
  unfold State.quiesceSlot
  cases s.slot n with
  | parked h =>
    simp only
    rw [State.complete_channel, State.unpark_channel]
    split <;> rfl
  | active h a b p =>
    simp only
    rw [State.cut_eq, State.complete_channel, State.releaseClaims_channel]
    split <;> rfl
  | _ => rfl

theorem State.channel_quiesced {s : State} (hparked : s.ParkedListsHold) (hclaims : s.AckClaimsHold) (c : ChanNo) :
    s.quiesced.channel c = (s.channel c).idle := by
  have hchannel : s.quiesced.channel c = ((slotNumbers.foldl State.quiesceSlot s.emptyGroups).channel c).cleared := by
    rw [State.quiesced, State.channel_clearMeasurements, State.idleLines_channel]
  have hidle : ((slotNumbers.foldl State.quiesceSlot s.emptyGroups).channel c).idle = (s.channel c).idle := by
    rw [foldl_keeps State.quiesceSlot (fun t => (t.channel c).idle) (State.quiesceSlot_idle c), State.emptyGroups_channel]
  have hlist : (s.quiesced.channel c).parked = [] := by
    refine List.eq_nil_iff_forall_not_mem.mpr fun n hn => ?_
    have hin := (((State.Change.quiesce (s := s)).keepsParkedLists hparked c).2 n).mp hn
    rw [State.slot_quiesced, (Slot.quiesced_idle s.now (s.slot n)).2.1] at hin
    cases hin
  have hclaim : (s.quiesced.channel c).ackClaim = none := by
    refine Option.eq_none_iff_forall_ne_some.mpr fun n hn => ?_
    have hstrobe := (((State.Change.quiesce (s := s)).keepsAckClaims hclaims c).1 n).mp hn
    rw [State.slot_quiesced, (Slot.quiesced_idle s.now (s.slot n)).2.2.2] at hstrobe
    cases hstrobe
  rw [hchannel] at hlist hclaim ⊢
  generalize (slotNumbers.foldl State.quiesceSlot s.emptyGroups).channel c = x at hlist hclaim hidle ⊢
  rw [← hidle]
  cases x
  cases hlist
  cases hclaim
  rfl

theorem exec_quiesce_of_latched (s : State) (h : s.latched codeQuiesce) :
    exec .quiesce s = .next (s.quiesced.accepted [byteOfNat s.placedTotal, byteOfNat s.openTotal]) := by
  have hexec : exec .quiesce s = .next (s.finish s.replyQuiesce) := congrArg Host.Outcome.next (if_pos h)
  rw [hexec, State.replyQuiesce, State.finish_ok]

/-- Settles O34: block by block, with the laws for what the collections hold afterwards. -/
theorem quiesceStopsAllTimedWork : Obligations.QuiesceStopsAllTimedWork := by
  intro s hbusy hcode hlawful
  have hopen : s.openTotal = slotNumbers.countP (fun n => (s.slot n).isOpened) :=
    List.countP_congr fun n _ => by cases s.slot n <;> rfl
  have hcu := State.cu_eq_of_busSide_eq s.quiesced_busSide
  have hexec := exec_quiesce_of_latched s ⟨hbusy, hcode⟩
  have hframe := State.eq_of_busSide_of_untimed s.quiesced_busSide s.quiesced_untimed
  rw [State.quiesced_calendar hlawful.calendar] at hframe
  have hqueue := s.quiesced_doneQueue
  have hslots := s.slot_quiesced
  have hlines := State.line_quiesced hlawful.claims
  have hchannels := State.channel_quiesced hlawful.parkedLists hlawful.ackClaims
  have hgroups := s.group_quiesced
  generalize s.quiesced = q at hcu hexec hframe hqueue hslots hlines hchannels hgroups
  refine ⟨_, hexec, ?frame, ?result, hqueue, fun n => (hslots n).trans ?slot, hlines, hchannels, hgroups⟩
  case frame =>
    rw [hframe]
    rfl
  case result =>
    simp only [State.accepted, hcu, hopen]
    rfl
  case slot => cases s.slot n <;> rfl

end Sys2Proof.Machine
end
